-- ==== Sys2Proof/Word.lean ====
section
/-!
DEFINITION. The bit vectors of the FTE and their plainest arithmetic (spec/00_scope.md R6 to R8).
Every value the spec treats as bits is a `BitVec` of the width the spec gives it.
-/

namespace Sys2Proof

/-- A Block or a Key: 16 bits (R6, BLOCK_W and KEY_W). -/
abbrev Block := BitVec 16

/-- A Half of a Block, or a subkey: 8 bits (R6, HALF_W and SUBKEY_W). -/
abbrev Half := BitVec 8

/-- A nibble of a Half: 4 bits (R6, NIBBLE_W). -/
abbrev Nibble := BitVec 4

/-- The data of one host access: 32 bits (R7, BUS_W). -/
abbrev Word := BitVec 32

/-- The descriptor HT of one host access: 40 bits (spec/30_encoding.md R80). -/
abbrev Descriptor := BitVec 40

/-- `zext_32` of a 16-bit register value (R10). -/
def zext32 (v : Block) : Word := v.zeroExtend 32

end Sys2Proof
end

