-- ==== Sys2Proof/Syntax.lean ====
section
/-!
DEFINITION. The instructions of the FTE: the host accesses of spec/opcode_table.json, one constructor per row.

The FTE fetches no instructions (spec/10_state.md R21). What is decoded is a host access, as the 40-bit descriptor
HT = WE, SIZE, OFF, WDATA of spec/30_encoding.md R80, and inside a CMD write the 2-bit MODE (R84).
Bits a row's decoder ignores are kept as an operand of its constructor, so that each of the 2^40 descriptors is the
encoding of exactly one instruction (notes/assumptions/8.md, DESIGN CHOICE); no meaning reads them.
-/

namespace Sys2Proof

/-- One host access to the register window. -/
inductive Instr where
  /-- RD_DATA_IN (R161). `wdata` is ignored. -/
  | rdDataIn (wdata : Word)
  /-- RD_KEY (R163). `wdata` is ignored. -/
  | rdKey (wdata : Word)
  /-- RD_CMD (R165). `wdata` is ignored. -/
  | rdCmd (wdata : Word)
  /-- RD_STATUS (R166). `wdata` is ignored. -/
  | rdStatus (wdata : Word)
  /-- RD_RESULT (R167). `wdata` is ignored. -/
  | rdResult (wdata : Word)
  /-- WR_DATA_IN (R162). -/
  | wrDataIn (wdata : Word)
  /-- WR_KEY (R164). -/
  | wrKey (wdata : Word)
  /-- WR_STATUS (R169). -/
  | wrStatus (wdata : Word)
  /-- WR_RESULT (R168). -/
  | wrResult (wdata : Word)
  /-- ENCRYPT: a CMD write with MODE = 0b01 (R137). `rsvd` is WDATA[31:2], ignored (R141). -/
  | encrypt (rsvd : BitVec 30)
  /-- DECRYPT: a CMD write with MODE = 0b10 (R138). `rsvd` is WDATA[31:2], ignored (R141). -/
  | decrypt (rsvd : BitVec 30)
  /-- INVALID_MODE_00: a CMD write with MODE = 0b00 (R139). `rsvd` is WDATA[31:2], ignored (R141). -/
  | invalidMode00 (rsvd : BitVec 30)
  /-- INVALID_MODE_11: a CMD write with MODE = 0b11 (R139). `rsvd` is WDATA[31:2], ignored (R141). -/
  | invalidMode11 (rsvd : BitVec 30)
  /-- RD_RSVD_14: a read of the reserved offset 0x14 (R170). `wdata` is ignored. -/
  | rdRsvd14 (wdata : Word)
  /-- RD_RSVD_18: a read of the reserved offset 0x18 (R170). `wdata` is ignored. -/
  | rdRsvd18 (wdata : Word)
  /-- RD_RSVD_1C: a read of the reserved offset 0x1C (R170). `wdata` is ignored. -/
  | rdRsvd1C (wdata : Word)
  /-- WR_RSVD_14: a write to the reserved offset 0x14 (R171). -/
  | wrRsvd14 (wdata : Word)
  /-- WR_RSVD_18: a write to the reserved offset 0x18 (R171). -/
  | wrRsvd18 (wdata : Word)
  /-- WR_RSVD_1C: a write to the reserved offset 0x1C (R171). -/
  | wrRsvd1C (wdata : Word)
  /-- BUS_ERR_SIZE_8: an 8-bit access, SIZE = 0b00 (R172). `we` is WE: true for a write. -/
  | busErrSize8 (we : Bool) (off : BitVec 5) (wdata : Word)
  /-- BUS_ERR_SIZE_16: a 16-bit access, SIZE = 0b01 (R172). -/
  | busErrSize16 (we : Bool) (off : BitVec 5) (wdata : Word)
  /-- BUS_ERR_SIZE_OTHER: an access of any other size, SIZE = 0b11 (R172). -/
  | busErrSizeOther (we : Bool) (off : BitVec 5) (wdata : Word)
  /-- BUS_ERR_ALIGN_ODD: a 32-bit access with OFF[0] = 1 (R173). -/
  | busErrAlignOdd (we : Bool) (off : BitVec 5) (wdata : Word)
  /-- BUS_ERR_ALIGN_2: a 32-bit access with OFF[1:0] = 0b10 (R173). -/
  | busErrAlign2 (we : Bool) (off : BitVec 5) (wdata : Word)
  deriving DecidableEq, Repr

/-- The access sizes, by their SIZE code (R81). -/
inductive AccessSize where
  /-- SIZE = 0b00: 8 bits. -/
  | bits8
  /-- SIZE = 0b01: 16 bits. -/
  | bits16
  /-- SIZE = 0b10: 32 bits, the only legal size (spec/20_memory.md R54). -/
  | bits32
  /-- SIZE = 0b11: any other size. -/
  | other
  deriving DecidableEq, Repr

end Sys2Proof
end

