-- ==== Sys2Proof/WellFormed.lean ====
section
/-!
DEFINITION. Which terms of `Instr` the encoding admits (spec/opcode_table.json; spec/42_register_access.md R173).
Only the two misaligned rows constrain an operand: their OFF holds the bits that make the row what it is. Every other
operand is legal at every value of its width; a read's WDATA and the reserved bits are ignored (R80, R141).
-/

namespace Sys2Proof

/-- The checks of each row's operands. -/
def Instr.wellFormed : Instr → Bool
  | .rdDataIn _ => true
  | .rdKey _ => true
  | .rdCmd _ => true
  | .rdStatus _ => true
  | .rdResult _ => true
  | .wrDataIn _ => true
  | .wrKey _ => true
  | .wrStatus _ => true
  | .wrResult _ => true
  | .encrypt _ => true
  | .decrypt _ => true
  | .invalidMode00 _ => true
  | .invalidMode11 _ => true
  | .rdRsvd14 _ => true
  | .rdRsvd18 _ => true
  | .rdRsvd1C _ => true
  | .wrRsvd14 _ => true
  | .wrRsvd18 _ => true
  | .wrRsvd1C _ => true
  | .busErrSize8 _ _ _ => true
  | .busErrSize16 _ _ _ => true
  | .busErrSizeOther _ _ _ => true
  | .busErrAlignOdd _ off _ => off.getLsbD 0
  | .busErrAlign2 _ off _ => !off.getLsbD 0 && off.getLsbD 1

end Sys2Proof
end

