-- ==== Sys2Proof/Decode.lean ====
section
/-!
DEFINITION. The decoder of host accesses, the encoder, and the rows of spec/opcode_table.json as data
(spec/30_encoding.md R80 to R85).

The descriptor HT is the spec's notation for one bus access, one 40-bit number. Where bytes are wanted, byte n of HT is
its bits 8n+7 to 8n, as R83 numbers them ("Byte 4 of HT (bits 39:32)"): notes/assumptions/7.md.
-/

namespace Sys2Proof

/-! ### The fields of a descriptor (R80) -/

/-- WE, bit 39: true for a write. -/
def descWe (ht : Descriptor) : Bool := ht.getLsbD 39

/-- SIZE, bits 38:37. -/
def descSize (ht : Descriptor) : BitVec 2 := ht.extractLsb' 37 2

/-- OFF, bits 36:32. -/
def descOff (ht : Descriptor) : BitVec 5 := ht.extractLsb' 32 5

/-- WDATA, bits 31:0. -/
def descWdata (ht : Descriptor) : Word := ht.extractLsb' 0 32

/-- The size a SIZE code names (R81). -/
def sizeOfCode (c : BitVec 2) : AccessSize :=
  if c = 0b00#2 then .bits8
  else if c = 0b01#2 then .bits16
  else if c = 0b10#2 then .bits32
  else .other

/-- The SIZE code of a size (R81). -/
def codeOfSize : AccessSize → BitVec 2
  | .bits8 => 0b00#2
  | .bits16 => 0b01#2
  | .bits32 => 0b10#2
  | .other => 0b11#2

/-! ### Decoding, in the order of R82 -/

/-- Step 4 of R82: a CMD write selects its command by WDATA[1:0] (MODE, R84, R85). -/
def decodeCommand (wdata : Word) : Instr :=
  let mode := wdata.extractLsb' 0 2
  let rsvd := wdata.extractLsb' 2 30
  if mode = 0b01#2 then .encrypt rsvd
  else if mode = 0b10#2 then .decrypt rsvd
  else if mode = 0b00#2 then .invalidMode00 rsvd
  else .invalidMode11 rsvd

/-- Step 3 of R82, reads: OFF[4:2] selects the register. -/
def decodeRead (reg : BitVec 3) (wdata : Word) : Instr :=
  if reg = 0#3 then .rdDataIn wdata
  else if reg = 1#3 then .rdKey wdata
  else if reg = 2#3 then .rdCmd wdata
  else if reg = 3#3 then .rdStatus wdata
  else if reg = 4#3 then .rdResult wdata
  else if reg = 5#3 then .rdRsvd14 wdata
  else if reg = 6#3 then .rdRsvd18 wdata
  else .rdRsvd1C wdata

/-- Step 3 of R82, writes: OFF[4:2] selects the register. -/
def decodeWrite (reg : BitVec 3) (wdata : Word) : Instr :=
  if reg = 0#3 then .wrDataIn wdata
  else if reg = 1#3 then .wrKey wdata
  else if reg = 2#3 then decodeCommand wdata
  else if reg = 3#3 then .wrStatus wdata
  else if reg = 4#3 then .wrResult wdata
  else if reg = 5#3 then .wrRsvd14 wdata
  else if reg = 6#3 then .wrRsvd18 wdata
  else .wrRsvd1C wdata

/-- Steps 2 and 3 of R82: a 32-bit access, first its alignment, then its register and direction. -/
def decodeWordAccess (we : Bool) (off : BitVec 5) (wdata : Word) : Instr :=
  if off.getLsbD 0 then .busErrAlignOdd we off wdata
  else if off.getLsbD 1 then .busErrAlign2 we off wdata
  else if we then decodeWrite (off.extractLsb' 2 3) wdata
  else decodeRead (off.extractLsb' 2 3) wdata

/-- R82: every descriptor selects exactly one row; size is judged first. -/
def decodeFields (we : Bool) (size : AccessSize) (off : BitVec 5) (wdata : Word) : Instr :=
  match size with
  | .bits8 => .busErrSize8 we off wdata
  | .bits16 => .busErrSize16 we off wdata
  | .other => .busErrSizeOther we off wdata
  | .bits32 => decodeWordAccess we off wdata

/-- The decoder of one descriptor, total on all 2^40 of them (R82). -/
def decodeDescriptor (ht : Descriptor) : Instr :=
  decodeFields (descWe ht) (sizeOfCode (descSize ht)) (descOff ht) (descWdata ht)

/-- Why bytes hold no host access. -/
inductive DecodeError where
  /-- Fewer than the five bytes of a descriptor are left. No descriptor is undecodable (R82), so this is the only
  reason. Safe: nothing runs. -/
  | truncatedDescriptor
  deriving DecidableEq, Repr

/-- The descriptor whose five bytes are given, byte 0 first. -/
def descriptorOfBytes (b0 b1 b2 b3 b4 : BitVec 8) : Descriptor := b4 ++ b3 ++ b2 ++ b1 ++ b0

/-- The decoder on bytes: the first access, and the bytes after it. -/
def decodeBytes : List (BitVec 8) → Except DecodeError (Instr × List (BitVec 8))
  | b0 :: b1 :: b2 :: b3 :: b4 :: rest => .ok (decodeDescriptor (descriptorOfBytes b0 b1 b2 b3 b4), rest)
  | _ => .error .truncatedDescriptor

/-- Byte n of a descriptor: bits 8n+7 to 8n (R83, and R57's lane n for the data). -/
def byteOfDescriptor (ht : Descriptor) (n : Nat) : BitVec 8 := ht.extractLsb' (8 * n) 8

/-- The five bytes of a descriptor, byte 0 first. -/
def bytesOfDescriptor (ht : Descriptor) : List (BitVec 8) :=
  [byteOfDescriptor ht 0, byteOfDescriptor ht 1, byteOfDescriptor ht 2, byteOfDescriptor ht 3, byteOfDescriptor ht 4]

/-- The descriptor whose low `nbits` bits are those of `w` and whose other bits are 0. -/
def descriptorOfTableWord (nbits w : Nat) : Descriptor := BitVec.ofNat 40 (w % 2 ^ nbits)

/-- The instruction the decoder reads from the descriptor `w`, numbered as spec/opcode_table.json numbers its bits;
none where `w` has a bit above the 40 of a descriptor. -/
def decodeTableWord (nbits w : Nat) : Option Instr :=
  if w % 2 ^ nbits < 2 ^ 40 then
    match decodeBytes (bytesOfDescriptor (descriptorOfTableWord nbits w)) with
    | .ok (i, _) => some i
    | .error _ => none
  else none

/-! ### Encoding (R80, R81, R83, R85) -/

/-- The descriptor with these fields (R80). -/
def encodeFields (we : Bool) (size : AccessSize) (off : BitVec 5) (wdata : Word) : Descriptor :=
  BitVec.ofBool we ++ codeOfSize size ++ off ++ wdata

/-- A 32-bit read of the register at byte offset `off`. -/
def encodeRead (off : BitVec 5) (wdata : Word) : Descriptor := encodeFields false .bits32 off wdata

/-- A 32-bit write of the register at byte offset `off`. -/
def encodeWrite (off : BitVec 5) (wdata : Word) : Descriptor := encodeFields true .bits32 off wdata

/-- A CMD write: offset 0x08, the command word of R84. -/
def encodeCommand (mode : BitVec 2) (rsvd : BitVec 30) : Descriptor := encodeWrite 0x08#5 (rsvd ++ mode)

/-- The descriptor of an instruction. -/
def encode : Instr → Descriptor
  | .rdDataIn w => encodeRead 0x00#5 w
  | .rdKey w => encodeRead 0x04#5 w
  | .rdCmd w => encodeRead 0x08#5 w
  | .rdStatus w => encodeRead 0x0C#5 w
  | .rdResult w => encodeRead 0x10#5 w
  | .wrDataIn w => encodeWrite 0x00#5 w
  | .wrKey w => encodeWrite 0x04#5 w
  | .wrStatus w => encodeWrite 0x0C#5 w
  | .wrResult w => encodeWrite 0x10#5 w
  | .encrypt r => encodeCommand 0b01#2 r
  | .decrypt r => encodeCommand 0b10#2 r
  | .invalidMode00 r => encodeCommand 0b00#2 r
  | .invalidMode11 r => encodeCommand 0b11#2 r
  | .rdRsvd14 w => encodeRead 0x14#5 w
  | .rdRsvd18 w => encodeRead 0x18#5 w
  | .rdRsvd1C w => encodeRead 0x1C#5 w
  | .wrRsvd14 w => encodeWrite 0x14#5 w
  | .wrRsvd18 w => encodeWrite 0x18#5 w
  | .wrRsvd1C w => encodeWrite 0x1C#5 w
  | .busErrSize8 we off w => encodeFields we .bits8 off w
  | .busErrSize16 we off w => encodeFields we .bits16 off w
  | .busErrSizeOther we off w => encodeFields we .other off w
  | .busErrAlignOdd we off w => encodeFields we .bits32 off w
  | .busErrAlign2 we off w => encodeFields we .bits32 off w

/-- The bytes of an instruction's descriptor, byte 0 first. -/
def encodeBytes (i : Instr) : List (BitVec 8) := bytesOfDescriptor (encode i)

/-! ### The opcode table as data, written from spec/opcode_table.json and not from the decoder -/

/-- One row of spec/opcode_table.json. -/
structure OpcodeRow where
  /-- "mnemonic". -/
  mnemonic : String
  /-- "match". -/
  value : Descriptor
  /-- "mask". -/
  mask : Descriptor
  deriving DecidableEq, Repr

/-- A descriptor is of a row when its bits under the row's mask are the row's match. -/
def OpcodeRow.covers (r : OpcodeRow) (ht : Descriptor) : Bool := ht &&& r.mask == r.value

/-- The rows of the register reads. -/
def readRows : List OpcodeRow :=
  [ ⟨"RD_DATA_IN", 0x4000000000#40, 0xFF00000000#40⟩,
    ⟨"RD_KEY", 0x4400000000#40, 0xFF00000000#40⟩,
    ⟨"RD_CMD", 0x4800000000#40, 0xFF00000000#40⟩,
    ⟨"RD_STATUS", 0x4C00000000#40, 0xFF00000000#40⟩,
    ⟨"RD_RESULT", 0x5000000000#40, 0xFF00000000#40⟩ ]

/-- The rows of the register writes other than a CMD write. -/
def writeRows : List OpcodeRow :=
  [ ⟨"WR_DATA_IN", 0xC000000000#40, 0xFF00000000#40⟩,
    ⟨"WR_KEY", 0xC400000000#40, 0xFF00000000#40⟩,
    ⟨"WR_STATUS", 0xCC00000000#40, 0xFF00000000#40⟩,
    ⟨"WR_RESULT", 0xD000000000#40, 0xFF00000000#40⟩ ]

/-- The rows of the CMD writes. -/
def commandRows : List OpcodeRow :=
  [ ⟨"ENCRYPT", 0xC800000001#40, 0xFF00000003#40⟩,
    ⟨"DECRYPT", 0xC800000002#40, 0xFF00000003#40⟩,
    ⟨"INVALID_MODE_00", 0xC800000000#40, 0xFF00000003#40⟩,
    ⟨"INVALID_MODE_11", 0xC800000003#40, 0xFF00000003#40⟩ ]

/-- The rows of the reserved offsets. -/
def reservedRows : List OpcodeRow :=
  [ ⟨"RD_RSVD_14", 0x5400000000#40, 0xFF00000000#40⟩,
    ⟨"RD_RSVD_18", 0x5800000000#40, 0xFF00000000#40⟩,
    ⟨"RD_RSVD_1C", 0x5C00000000#40, 0xFF00000000#40⟩,
    ⟨"WR_RSVD_14", 0xD400000000#40, 0xFF00000000#40⟩,
    ⟨"WR_RSVD_18", 0xD800000000#40, 0xFF00000000#40⟩,
    ⟨"WR_RSVD_1C", 0xDC00000000#40, 0xFF00000000#40⟩ ]

/-- The rows of the illegal accesses. -/
def busErrorRows : List OpcodeRow :=
  [ ⟨"BUS_ERR_SIZE_8", 0x0000000000#40, 0x6000000000#40⟩,
    ⟨"BUS_ERR_SIZE_16", 0x2000000000#40, 0x6000000000#40⟩,
    ⟨"BUS_ERR_SIZE_OTHER", 0x6000000000#40, 0x6000000000#40⟩,
    ⟨"BUS_ERR_ALIGN_ODD", 0x4100000000#40, 0x6100000000#40⟩,
    ⟨"BUS_ERR_ALIGN_2", 0x4200000000#40, 0x6300000000#40⟩ ]

/-- All 24 rows. -/
def opcodeRows : List OpcodeRow := readRows ++ writeRows ++ commandRows ++ reservedRows ++ busErrorRows

/-- The mnemonic of an instruction's row. -/
def mnemonicOf : Instr → String
  | .rdDataIn _ => "RD_DATA_IN"
  | .rdKey _ => "RD_KEY"
  | .rdCmd _ => "RD_CMD"
  | .rdStatus _ => "RD_STATUS"
  | .rdResult _ => "RD_RESULT"
  | .wrDataIn _ => "WR_DATA_IN"
  | .wrKey _ => "WR_KEY"
  | .wrStatus _ => "WR_STATUS"
  | .wrResult _ => "WR_RESULT"
  | .encrypt _ => "ENCRYPT"
  | .decrypt _ => "DECRYPT"
  | .invalidMode00 _ => "INVALID_MODE_00"
  | .invalidMode11 _ => "INVALID_MODE_11"
  | .rdRsvd14 _ => "RD_RSVD_14"
  | .rdRsvd18 _ => "RD_RSVD_18"
  | .rdRsvd1C _ => "RD_RSVD_1C"
  | .wrRsvd14 _ => "WR_RSVD_14"
  | .wrRsvd18 _ => "WR_RSVD_18"
  | .wrRsvd1C _ => "WR_RSVD_1C"
  | .busErrSize8 _ _ _ => "BUS_ERR_SIZE_8"
  | .busErrSize16 _ _ _ => "BUS_ERR_SIZE_16"
  | .busErrSizeOther _ _ _ => "BUS_ERR_SIZE_OTHER"
  | .busErrAlignOdd _ _ _ => "BUS_ERR_ALIGN_ODD"
  | .busErrAlign2 _ _ _ => "BUS_ERR_ALIGN_2"

end Sys2Proof
end

