-- ==== Sys2Proof/Machine/State.lean ====
section
/-!
DEFINITION. The state of the FTE (spec/10_state.md R42), as plain data, the state after reset (R41), and the reasons a
step can stop.

Two fields are the MODEL's own and not the spec's: `resp`, where the bus answer of the last host access is shown
(notes/assumptions/3.md), and `events`, the events still to come at the FTE in the total order of
spec/20_memory.md R62 (notes/assumptions/1.md). Nothing constrains `events`: a statement over every state covers every
schedule of host accesses, engine steps and resets (R63).
-/

namespace Sys2Proof.Machine

/-- The codes of STATUS.ERR (R29), one name for each of the four. -/
inductive ErrCode where
  /-- 0b00 NONE. -/
  | none
  /-- 0b01 FORMAT: reserved for the host adapter, never written by the FTE (spec/60_exceptions.md R201). -/
  | format
  /-- 0b10 INVALID_MODE. -/
  | invalidMode
  /-- 0b11: reserved, never produced. -/
  | reserved
  deriving DecidableEq, Repr

/-- DIR, the direction of the command in flight (R33). -/
inductive Direction where
  /-- DIR = 0. -/
  | encrypt
  /-- DIR = 1. -/
  | decrypt
  deriving DecidableEq, Repr

/-- What the fault mark records of the access that set it: its WE, SIZE and OFF (spec/60_exceptions.md R205;
spec/95_test_vectors.md P6). -/
structure BusError where
  /-- WE: true for a write. -/
  write : Bool
  /-- SIZE. -/
  size : AccessSize
  /-- OFF. -/
  off : BitVec 5
  deriving DecidableEq, Repr

/-- The bus answer of one host access (spec/42_register_access.md; spec/60_exceptions.md R204). -/
inductive Response where
  /-- No host access has been answered since reset. -/
  | idle
  /-- OKAY, to a write. -/
  | okay
  /-- OKAY, to a read, with its `rdata`. -/
  | data (rdata : Word)
  /-- The error response of BusError; a read gets no data. -/
  | error
  deriving DecidableEq, Repr

/-- One event at the FTE (spec/20_memory.md R62; spec/70_reset_and_hazards.md R230). -/
inductive Event where
  /-- A host access reaches the window; `ht` is its descriptor (spec/30_encoding.md R80). -/
  | access (ht : Descriptor)
  /-- The engine's turn: ENGINE_ROUND where BUSY = 1, nothing where BUSY = 0 (spec/41_cipher_commands.md R142). -/
  | engineTurn
  /-- A cycle in which `rst` is sampled high; `during` is a host access issued in that cycle, which the host must
  not do (R230). -/
  | reset (during : Option Descriptor)
  deriving DecidableEq, Repr

/-- The state (R42), with the model's own two fields last. -/
structure State where
  /-- DATA_IN (R23): the input Block of the next command. -/
  dataIn : Block
  /-- KEY (R24): the Key of the next command. -/
  key : Block
  /-- RESULT (R30): the output Block of the last completed command. -/
  result : Block
  /-- STATUS.BUSY (R27). -/
  busy : Bool
  /-- STATUS.DONE (R28). -/
  done : Bool
  /-- STATUS.ERR (R29). -/
  err : ErrCode
  /-- L, the left half of the round state (R31). -/
  l : Half
  /-- R, the right half of the round state (R31). -/
  r : Half
  /-- SK1, subkey K1 of the command in flight (R32). -/
  sk1 : Half
  /-- SK2, subkey K2 of the command in flight (R32). -/
  sk2 : Half
  /-- DIR (R33). -/
  dir : Direction
  /-- CTR (R34): the rounds completed; legal values 0 to 4. -/
  ctr : BitVec 3
  /-- The fault mark of spec/60_exceptions.md R205: `none`, or what it records of the access that set it. -/
  faultMark : Option BusError
  /-- MODEL's own: the bus answer of the last host access. -/
  resp : Response
  /-- MODEL's own: the events still to come, the next one first. -/
  events : List Event
  deriving DecidableEq, Repr

/-- Why the machine stops with no next state. -/
inductive Fault where
  /-- Raised by `step` on every event but a reset cycle, where the fault mark stands: the model has no run past a
  BusError (spec/60_exceptions.md R205; D31). The hardware goes on. Safe: nothing can be claimed of what follows. -/
  | pastBusError (e : BusError)
  /-- Raised by `step` on every event but a reset cycle, where STATUS.ERR holds a code the FTE never writes: `stuck`,
  by spec/93_implementation_defined.md I13 and I14. No reachable state has such a code (R36). Safe. -/
  | errCodeNeverWritten (e : ErrCode)
  /-- Raised by the engine step where BUSY = 1 and CTR > 3: R34 and spec/41_cipher_commands.md R143 give it no
  effect. No reachable state is so (R36). Safe. -/
  | roundCounterOutOfRange (ctr : BitVec 3)
  deriving DecidableEq, Repr

/-- Why the machine has no meaning for what it is given. -/
inductive Refusal where
  /-- Raised by `exec` for an instruction that has no meaning yet. Safe: nothing runs. -/
  | notModelled (mnemonic : String)
  /-- Raised by `step` for a host access issued in a reset cycle: "A model has no step for such an access"
  (spec/70_reset_and_hazards.md R230; spec/93_implementation_defined.md I10). Safe: it is a host duty not to make. -/
  | accessDuringReset
  deriving DecidableEq, Repr

/-- The machine right after reset: every state element at its value of R41, no fault mark, no access answered and no
event pending (notes/assumptions/1.md, 3.md, 4.md). -/
def State.reset : State where
  dataIn := 0x0000#16
  key := 0x0000#16
  result := 0x0000#16
  busy := false
  done := false
  err := .none
  l := 0x00#8
  r := 0x00#8
  sk1 := 0x00#8
  sk2 := 0x00#8
  dir := .encrypt
  ctr := 0#3
  faultMark := none
  resp := .idle
  events := []

end Sys2Proof.Machine
end

