-- ==== Sys2Proof/Machine/Flags.lean ====
section
/-!
DEFINITION. STATUS and everything that writes its flags (spec/10_state.md R26 to R29, R37). No arithmetic writes a
flag; BUSY, DONE and ERR change only as named here and at reset.
-/

namespace Sys2Proof.Machine

/-- The 2-bit code of STATUS.ERR (R29). -/
def ErrCode.bits : ErrCode → BitVec 2
  | .none => 0b00#2
  | .format => 0b01#2
  | .invalidMode => 0b10#2
  | .reserved => 0b11#2

/-- DIR as its bit: 0 = Encrypt, 1 = Decrypt (R33). -/
def Direction.bit : Direction → BitVec 1
  | .encrypt => 0#1
  | .decrypt => 1#1

/-- The word a read of STATUS returns: BUSY in bit 0, DONE in bit 1, ERR in bits 3:2, the rest 0
(R26; spec/42_register_access.md R166). -/
def statusWord (s : State) : Word :=
  (s.err.bits ++ BitVec.ofBool s.done ++ BitVec.ofBool s.busy).zeroExtend 32

/-- The flags when any command is accepted (R28, R29): DONE <- 0, ERR <- NONE. -/
def State.clearOutcome (s : State) : State := { s with done := false, err := .none }

/-- BUSY <- 1, when a valid command is accepted (R27). -/
def State.markBusy (s : State) : State := { s with busy := true }

/-- The flags when the engine completes a command (R27, R28): BUSY <- 0, DONE <- 1. ERR stays as it is. -/
def State.markCompleted (s : State) : State := { s with busy := false, done := true }

/-- The flags when an invalid-mode command completes in its accepting access (spec/41_cipher_commands.md R139):
ERR <- INVALID_MODE, DONE <- 1. BUSY is not written. -/
def State.markInvalidMode (s : State) : State := { s with done := true, err := .invalidMode }

end Sys2Proof.Machine
end

