-- ==== Sys2Proof/Machine/Datapath.lean ====
section
/-!
DEFINITION. The combinational functions of the CORE (spec/40_datapath.md R100 to R115) and the reference transforms ENC
and DEC (spec/41_cipher_commands.md R130, R131). None of them reads or writes state, and each is total.

The decryption schedule and the order of the decrypted halves are those of R111, R112 and R131, as
spec/90_conflicts.md C1 and C2 settle them.
-/

namespace Sys2Proof.Machine

/-! ### Splitting and combining -/

/-- SPLIT16 (R100): the two Halves of a 16-bit value, the high one first. -/
def split16 (v : Block) : Half × Half := (v.extractLsb' 8 8, v.extractLsb' 0 8)

/-- COMBINE (R101): the first argument in the high bits. -/
def combine (a b : Half) : Block := a ++ b

/-- K1 = KEY[15:8] (R102). -/
def subkey1 (key : Block) : Half := (split16 key).1

/-- K2 = KEY[7:0] (R102). -/
def subkey2 (key : Block) : Half := (split16 key).2

/-- NIB_HI (R103). -/
def nibHi (h : Half) : Nibble := h.extractLsb' 4 4

/-- NIB_LO (R103). -/
def nibLo (h : Half) : Nibble := h.extractLsb' 0 4

/-! ### The S-box unit -/

/-- The table of R104, entry n at place n. It is a constant of the model and no field of State (R35, R42). -/
def sboxTable : List Nibble :=
  [0x6#4, 0x7#4, 0x8#4, 0x9#4, 0xA#4, 0xB#4, 0xC#4, 0xD#4,
   0xE#4, 0xF#4, 0x0#4, 0x1#4, 0x2#4, 0x3#4, 0x4#4, 0x5#4]

/-- SBOX (R104): exact-match lookup. Every nibble has an entry, so the default is never answered. -/
def sbox (n : Nibble) : Nibble := sboxTable.getD n.toNat 0#4

/-- SUB8 (R107): the two S-box lanes, which do not interact. -/
def sub8 (x : Half) : Half := sbox (nibHi x) ++ sbox (nibLo x)

/-! ### The round function, the key schedule selector and the round -/

/-- F (R109). -/
def roundF (h k : Half) : Half := sub8 (h ^^^ k)

/-- KSEL (R111): `sel_K1` is "j is odd" xor "DIR = 1". `j` counts steps from 1 in application order. -/
def ksel (dir : Direction) (j : Nat) (sk1 sk2 : Half) : Half :=
  if (j % 2 == 1) ^^ (dir == .decrypt) then sk1 else sk2

/-- ROUND (R113): `(R, L xor F(R, k))`. -/
def feistelRound (lr : Half × Half) (k : Half) : Half × Half := (lr.2, lr.1 ^^^ roundF lr.2 k)

/-! ### The reference transforms -/

/-- The subkey of encryption round i (R110): K1 for odd i, K2 for even i. -/
def encSubkey (key : Block) (i : Nat) : Half := if i % 2 = 1 then subkey1 key else subkey2 key

/-- The subkey of decryption step j (R131): K2 for odd j, K1 for even j. -/
def decSubkey (key : Block) (j : Nat) : Half := if j % 2 = 1 then subkey2 key else subkey1 key

/-- (L_i, R_i) of the encryption of `p` under `key`: the state after i rounds (R130, R145). -/
def encState (p key : Block) : Nat → Half × Half
  | 0 => split16 p
  | i + 1 => feistelRound (encState p key i) (encSubkey key (i + 1))

/-- The state of the decryption of `c` under `key` after j steps, from the swapped entry (R131). -/
def decState (c key : Block) : Nat → Half × Half
  | 0 => ((split16 c).2, (split16 c).1)
  | j + 1 => feistelRound (decState c key j) (decSubkey key (j + 1))

/-- ENC (R130): L4 ++ R4, with no final swap. For every Key it is a permutation of the Blocks, with inverse DEC (R134). -/
def enc (p key : Block) : Block := combine (encState p key 4).1 (encState p key 4).2

/-- DEC (R131): R ++ L of the final state, the exit swap. For every Key it is a permutation of the Blocks, with inverse ENC
(R134). -/
def dec (c key : Block) : Block := combine (decState c key 4).2 (decState c key 4).1

/-- A Block with its two halves exchanged. -/
def swapHalves (v : Block) : Block := combine (split16 v).2 (split16 v).1

/-- The state of the LITERAL reading of the source's decryption after j steps: entry swap, subkeys K1, K2, K1, K2
(spec/90_conflicts.md C1). -/
def literalDecState (c key : Block) : Nat → Half × Half
  | 0 => ((split16 c).2, (split16 c).1)
  | j + 1 => feistelRound (literalDecState c key j) (encSubkey key (j + 1))

/-- The LITERAL reading of the source's decryption, output L ++ R (spec/90_conflicts.md C1, C2). It is the losing reading:
nothing of the machine uses it. It stands here so that R134's comparison of it with DEC can be stated. -/
def literalDec (c key : Block) : Block := combine (literalDecState c key 4).1 (literalDecState c key 4).2

/-- ENC or DEC, by the direction of a command. -/
def transform : Direction → Block → Block → Block
  | .encrypt => enc
  | .decrypt => dec

/-- The round state after j rounds of a command of direction `d` (R145; R131). -/
def roundState : Direction → Block → Block → Nat → Half × Half
  | .encrypt => encState
  | .decrypt => decState

end Sys2Proof.Machine
end

