-- ==== Sys2Proof/Machine/Operands.lean ====
section
/-!
DEFINITION. The operand forms of the FTE (spec/30_encoding.md R86). There are no immediates, no addressing modes and no
register numbers: an access has its write data, and a command the whole contents of DATA_IN and KEY.
-/

namespace Sys2Proof.Machine

/-- What a write to DATA_IN or KEY takes of its write data: WDATA[15:0]; WDATA[31:16] is ignored (R86). -/
def writeOperand (wdata : Word) : Block := wdata.extractLsb' 0 16

/-- The initial round state of a command of direction `d` on input Block `v` (spec/41_cipher_commands.md R136): the
halves in order to encrypt, swapped to decrypt. -/
def entryHalves (d : Direction) (v : Block) : Half × Half :=
  match d with
  | .encrypt => ((split16 v).1, (split16 v).2)
  | .decrypt => ((split16 v).2, (split16 v).1)

/-- The output Block of a command of direction `d` whose final round state is (l, r)
(spec/41_cipher_commands.md R143): L ++ R to encrypt, R ++ L to decrypt. -/
def exitBlock (d : Direction) (l r : Half) : Block :=
  match d with
  | .encrypt => combine l r
  | .decrypt => combine r l

end Sys2Proof.Machine
end

