-- ==== Sys2Proof/Machine/Ops.lean ====
section
/-!
DEFINITION. The named operations over the registers, the two errors, and command acceptance. Every meaning goes through
these. The FTE has no memory (spec/10_state.md R40), so there is no memory operation.
-/

namespace Sys2Proof.Machine

/-! ### Registers and the bus answer -/

/-- Show the bus answer of an access. -/
def State.respond (s : State) (a : Response) : State := { s with resp := a }

/-- Write DATA_IN (R23). -/
def State.setDataIn (s : State) (v : Block) : State := { s with dataIn := v }

/-- Write KEY (R24). -/
def State.setKey (s : State) (v : Block) : State := { s with key := v }

/-- Write RESULT (R30): only a completion does. -/
def State.setResult (s : State) (v : Block) : State := { s with result := v }

/-- Write the round state and CTR, at once (R31, R34; spec/40_datapath.md R115). -/
def State.setRound (s : State) (lr : Half × Half) (ctr : BitVec 3) : State :=
  { s with l := lr.1, r := lr.2, ctr := ctr }

/-- Write the subkey snapshot and the direction (R32, R33). -/
def State.setSnapshot (s : State) (sk1 sk2 : Half) (d : Direction) : State :=
  { s with sk1 := sk1, sk2 := sk2, dir := d }

/-- Set the fault mark (spec/60_exceptions.md R205). It is never cleared, so a mark that stands is kept
(notes/assumptions/5.md). -/
def State.mark (s : State) (e : BusError) : State :=
  { s with faultMark := some (s.faultMark.getD e) }

/-- Leave `es` as the events still to come. -/
def State.withEvents (s : State) (es : List Event) : State := { s with events := es }

/-- The OKAY answer to a read, with its `rdata`. A read writes no register (spec/42_register_access.md R160). -/
def readReply (rdata : Word) (s : State) : Host.Outcome State Fault Refusal := .next (s.respond (.data rdata))

/-- The OKAY answer to a write whose effect has been made on `s`. -/
def writeReply (s : State) : Host.Outcome State Fault Refusal := .next (s.respond .okay)

/-! ### The two errors

The FTE has no traps: an error saves no state, transfers no control and there is no return from it
(spec/60_exceptions.md R208, R209). An access error is an error response and, in the model, the fault mark; a command
error is recorded in STATUS.ERR and RESULT. -/

/-- BusError (R204, R205): an error response, no data, no register changes; the fault mark records the access. -/
def raiseBusError (e : BusError) (s : State) : Host.Outcome State Fault Refusal := .next ((s.mark e).respond .error)

/-- InvalidModeError (R202; spec/41_cipher_commands.md R139): the sentinel in RESULT, ERR = INVALID_MODE, DONE = 1. No
round runs, and DATA_IN, KEY, L, R, SK1, SK2, DIR and CTR are unchanged. -/
def raiseInvalidMode (s : State) : State := (s.setResult 0x0000#16).markInvalidMode

/-! ### Command acceptance -/

/-- ACCEPT_VALID(d) (spec/41_cipher_commands.md R136). RESULT is unchanged. -/
def acceptValid (d : Direction) (s : State) : State :=
  ((s.setSnapshot (subkey1 s.key) (subkey2 s.key) d).setRound (entryHalves d s.dataIn) 0#3).markBusy

/-- What every CMD write does (spec/41_cipher_commands.md R135, R140): dropped with OKAY where BUSY = 1; otherwise
accepted, DONE and ERR cleared, and the selected command's `effect` made. -/
def cmdWrite (effect : State → State) (s : State) : Host.Outcome State Fault Refusal :=
  if s.busy then writeReply s else writeReply (effect s.clearOutcome)

end Sys2Proof.Machine
end

