-- ==== Sys2Proof/Machine/BusErrors.lean ====
section
/-!
DEFINITION. The meanings of the illegal accesses (spec/42_register_access.md R172, R173): each raises BusError and does
nothing else. The write data is not looked at.
-/

namespace Sys2Proof.Machine

/-- BUS_ERR_SIZE_8 (R172). -/
def execBusErrSize8 (we : Bool) (off : BitVec 5) (s : State) : Host.Outcome State Fault Refusal :=
  raiseBusError ⟨we, .bits8, off⟩ s

/-- BUS_ERR_SIZE_16 (R172). -/
def execBusErrSize16 (we : Bool) (off : BitVec 5) (s : State) : Host.Outcome State Fault Refusal :=
  raiseBusError ⟨we, .bits16, off⟩ s

/-- BUS_ERR_SIZE_OTHER (R172). -/
def execBusErrSizeOther (we : Bool) (off : BitVec 5) (s : State) : Host.Outcome State Fault Refusal :=
  raiseBusError ⟨we, .other, off⟩ s

/-- BUS_ERR_ALIGN_ODD (R173). -/
def execBusErrAlignOdd (we : Bool) (off : BitVec 5) (s : State) : Host.Outcome State Fault Refusal :=
  raiseBusError ⟨we, .bits32, off⟩ s

/-- BUS_ERR_ALIGN_2 (R173). -/
def execBusErrAlign2 (we : Bool) (off : BitVec 5) (s : State) : Host.Outcome State Fault Refusal :=
  raiseBusError ⟨we, .bits32, off⟩ s

end Sys2Proof.Machine
end

