-- ==== Sys2Proof/Machine/Commands.lean ====
section
/-!
DEFINITION. The meanings of the four CMD writes (spec/41_cipher_commands.md R135 to R141). A valid command only starts
here; its rounds are the engine's (Machine/Engine.lean).
-/

namespace Sys2Proof.Machine

/-- ENCRYPT (R137). -/
def execEncrypt (s : State) : Host.Outcome State Fault Refusal := cmdWrite (acceptValid .encrypt) s

/-- DECRYPT (R138). -/
def execDecrypt (s : State) : Host.Outcome State Fault Refusal := cmdWrite (acceptValid .decrypt) s

/-- INVALID_MODE_00 (R139). -/
def execInvalidMode00 (s : State) : Host.Outcome State Fault Refusal := cmdWrite raiseInvalidMode s

/-- INVALID_MODE_11 (R139). -/
def execInvalidMode11 (s : State) : Host.Outcome State Fault Refusal := cmdWrite raiseInvalidMode s

end Sys2Proof.Machine
end

