-- ==== Sys2Proof/Machine/Registers.lean ====
section
/-!
DEFINITION. The meanings of the register reads and writes (spec/42_register_access.md R160 to R171), one per row of
spec/opcode_table.json. Each is one access, gets OKAY, and leaves a command in flight alone (R160).
-/

namespace Sys2Proof.Machine

/-- RD_DATA_IN (R161). -/
def execRdDataIn (s : State) : Host.Outcome State Fault Refusal := readReply (zext32 s.dataIn) s

/-- RD_KEY (R163). -/
def execRdKey (s : State) : Host.Outcome State Fault Refusal := readReply (zext32 s.key) s

/-- RD_CMD (R165): CMD stores nothing. -/
def execRdCmd (s : State) : Host.Outcome State Fault Refusal := readReply 0x00000000#32 s

/-- RD_STATUS (R166). -/
def execRdStatus (s : State) : Host.Outcome State Fault Refusal := readReply (statusWord s) s

/-- RD_RESULT (R167). -/
def execRdResult (s : State) : Host.Outcome State Fault Refusal := readReply (zext32 s.result) s

/-- WR_DATA_IN (R162). -/
def execWrDataIn (wdata : Word) (s : State) : Host.Outcome State Fault Refusal :=
  writeReply (s.setDataIn (writeOperand wdata))

/-- WR_KEY (R164). -/
def execWrKey (wdata : Word) (s : State) : Host.Outcome State Fault Refusal :=
  writeReply (s.setKey (writeOperand wdata))

/-- WR_STATUS (R169): ignored. -/
def execWrStatus (s : State) : Host.Outcome State Fault Refusal := writeReply s

/-- WR_RESULT (R168): ignored. -/
def execWrResult (s : State) : Host.Outcome State Fault Refusal := writeReply s

/-- RD_RSVD_14 (R170): read as zero. -/
def execRdRsvd14 (s : State) : Host.Outcome State Fault Refusal := readReply 0x00000000#32 s

/-- RD_RSVD_18 (R170): read as zero. -/
def execRdRsvd18 (s : State) : Host.Outcome State Fault Refusal := readReply 0x00000000#32 s

/-- RD_RSVD_1C (R170): read as zero. -/
def execRdRsvd1C (s : State) : Host.Outcome State Fault Refusal := readReply 0x00000000#32 s

/-- WR_RSVD_14 (R171): ignored. -/
def execWrRsvd14 (s : State) : Host.Outcome State Fault Refusal := writeReply s

/-- WR_RSVD_18 (R171): ignored. -/
def execWrRsvd18 (s : State) : Host.Outcome State Fault Refusal := writeReply s

/-- WR_RSVD_1C (R171): ignored. -/
def execWrRsvd1C (s : State) : Host.Outcome State Fault Refusal := writeReply s

end Sys2Proof.Machine
end

