-- ==== Sys2Proof/Machine/Dispatch.lean ====
section
/-!
DEFINITION. The meaning of each instruction: one arm per constructor of `Instr`, each one call of that instruction's own
meaning.
-/

namespace Sys2Proof.Machine

/-- What a host access does to the state (spec/41_cipher_commands.md, spec/42_register_access.md). -/
def exec (i : Instr) (s : State) : Host.Outcome State Fault Refusal :=
  match i with
  | .rdDataIn _ => Sys2Proof.Machine.execRdDataIn s
  | .rdKey _ => Sys2Proof.Machine.execRdKey s
  | .rdCmd _ => Sys2Proof.Machine.execRdCmd s
  | .rdStatus _ => Sys2Proof.Machine.execRdStatus s
  | .rdResult _ => Sys2Proof.Machine.execRdResult s
  | .wrDataIn wdata => Sys2Proof.Machine.execWrDataIn wdata s
  | .wrKey wdata => Sys2Proof.Machine.execWrKey wdata s
  | .wrStatus _ => Sys2Proof.Machine.execWrStatus s
  | .wrResult _ => Sys2Proof.Machine.execWrResult s
  | .encrypt _ => Sys2Proof.Machine.execEncrypt s
  | .decrypt _ => Sys2Proof.Machine.execDecrypt s
  | .invalidMode00 _ => Sys2Proof.Machine.execInvalidMode00 s
  | .invalidMode11 _ => Sys2Proof.Machine.execInvalidMode11 s
  | .rdRsvd14 _ => Sys2Proof.Machine.execRdRsvd14 s
  | .rdRsvd18 _ => Sys2Proof.Machine.execRdRsvd18 s
  | .rdRsvd1C _ => Sys2Proof.Machine.execRdRsvd1C s
  | .wrRsvd14 _ => Sys2Proof.Machine.execWrRsvd14 s
  | .wrRsvd18 _ => Sys2Proof.Machine.execWrRsvd18 s
  | .wrRsvd1C _ => Sys2Proof.Machine.execWrRsvd1C s
  | .busErrSize8 we off _ => Sys2Proof.Machine.execBusErrSize8 we off s
  | .busErrSize16 we off _ => Sys2Proof.Machine.execBusErrSize16 we off s
  | .busErrSizeOther we off _ => Sys2Proof.Machine.execBusErrSizeOther we off s
  | .busErrAlignOdd we off _ => Sys2Proof.Machine.execBusErrAlignOdd we off s
  | .busErrAlign2 we off _ => Sys2Proof.Machine.execBusErrAlign2 we off s

end Sys2Proof.Machine
end

