-- ==== Sys2Proof/Config.lean ====
section
/-!
DEFINITION. The parameters of the FTE (spec/00_scope.md R6, R7).
What the spec fixes is a number here. What it leaves OPEN is an argument of the functions that use it (R7: "a
named parameter the model takes as an argument"), so that a statement holds for every value of it.
-/

namespace Sys2Proof.Config

/-- ROUNDS: the rounds of one command (R6). -/
def rounds : Nat := 4

/-- WINDOW_BYTES: the size of the register window (R7, decided in D4). -/
def windowBytes : Nat := 32

/-- LATENCY is OPEN and an argument of the clock (Machine/Clock.lean); this is its reference value, in cycles (R7, R245).
The untimed step does not use it. -/
def referenceLatency : Nat := 4

/-- With the reference LATENCY: the rounds of the accepting cycle t and of cycles t+1, t+2, t+3; cycle t+4 makes the last
(spec/70_reset_and_hazards.md R245). -/
def referenceEarlyRounds : List Nat := [0, 1, 1, 1]

/-- FTE_BASE is OPEN; what the spec fixes about it is that it is a multiple of 32 (spec/20_memory.md R51). -/
abbrev BaseAligned (base : Nat) : Prop := base % windowBytes = 0

end Sys2Proof.Config
end

