-- ==== Sys2Proof/Machine/Engine.lean ====
section
/-!
DEFINITION. The engine (spec/41_cipher_commands.md R142, R143; spec/40_datapath.md R115): one Feistel round per step,
and the completion of the command with the fourth.
-/

namespace Sys2Proof.Machine

/-- The completion of a command whose last round has been made (R143, j = 4): RESULT, then BUSY <- 0 and DONE <- 1. -/
def completeCommand (s : State) : State := (s.setResult (exitBlock s.dir s.l s.r)).markCompleted

/-- The round with step number j: KSEL, ROUND, CTR <- j (R143). -/
def applyRound (j : Nat) (s : State) : State :=
  s.setRound (feistelRound (s.l, s.r) (ksel s.dir j s.sk1 s.sk2)) (BitVec.ofNat 3 j)

/-- ENGINE_ROUND (R143), where BUSY = 1. CTR above 3 has no rule and no reachable state has it
(notes/assumptions/6.md). -/
def engineRound (s : State) : Host.Outcome State Fault Refusal :=
  if s.ctr.toNat ≤ 3 then
    if s.ctr.toNat + 1 = Config.rounds then .next (completeCommand (applyRound (s.ctr.toNat + 1) s))
    else .next (applyRound (s.ctr.toNat + 1) s)
  else .fault (.roundCounterOutOfRange s.ctr)

/-- The engine's turn (R142): enabled exactly when BUSY = 1; otherwise it has no step, and nothing changes. -/
def engineTurn (s : State) : Host.Outcome State Fault Refusal :=
  if s.busy then engineRound s else .next s

end Sys2Proof.Machine
end

