-- ==== Sys2Proof/Machine/Events.lean ====
section
/-!
DEFINITION. What one event does at the FTE: a host access, a turn of the engine, or a reset cycle
(spec/20_memory.md R62; spec/41_cipher_commands.md R142; spec/70_reset_and_hazards.md R230). Machine/Step.lean only takes
the next event and calls this.
-/

namespace Sys2Proof.Machine

/-- Why a state has no step but a reset: the fault mark stands (spec/60_exceptions.md R205, D31: no runs past the
fault), or STATUS.ERR holds a code the FTE never writes (spec/93_implementation_defined.md I13, I14: stuck). -/
def stopReason (s : State) : Option Fault :=
  match s.faultMark, s.err with
  | some e, _ => some (.pastBusError e)
  | none, .format => some (.errCodeNeverWritten .format)
  | none, .reserved => some (.errCodeNeverWritten .reserved)
  | none, .none => none
  | none, .invalidMode => none

/-- A cycle in which `rst` is sampled high (R230, R41): every state element takes its reset value, whatever it was, and a
command in flight is aborted (R232). The fault mark is not cleared, "not even by reset" (R205), and the events still to
come are the environment's. -/
def resetCycle (s : State) : State := { State.reset with faultMark := s.faultMark, events := s.events }

/-- One event, where `s.events` are the events after it. Reset beats everything (R207). -/
def serve (e : Event) (s : State) : Host.Outcome State Fault Refusal :=
  match e with
  | .reset none => .next (resetCycle s)
  | .reset (some _) => .refused .accessDuringReset
  | .access ht =>
    match stopReason s with
    | some f => .fault f
    | none => exec (decodeDescriptor ht) s
  | .engineTurn =>
    match stopReason s with
    | some f => .fault f
    | none => engineTurn s

/-- The next event and the events after it. Where none is pending the engine is the only agent left to move: its turn
(spec/20_memory.md R63, weak fairness; notes/assumptions/2.md). -/
def nextEvent : List Event → Event × List Event
  | [] => (.engineTurn, [])
  | e :: es => (e, es)

/-- The event by which a host access with the descriptor `w` reaches the FTE. -/
def accessEvent (nbits w : Nat) : Event := .access (descriptorOfTableWord nbits w)

end Sys2Proof.Machine
end

