-- ==== Sys2Proof/Machine/Step.lean ====
section
/-!
DEFINITION. One step: the next event takes place. The FTE has no program counter and fetches nothing
(spec/10_state.md R21); the next instruction is the next host access among the pending events.
-/

namespace Sys2Proof.Machine

/-- One step: the first pending event, or the engine's turn where none is pending. -/
def step (s : State) : Host.Outcome State Fault Refusal :=
  serve (nextEvent s.events).1 (s.withEvents (nextEvent s.events).2)

/-- `s` with the host access of descriptor `w` as the very next event (notes/assumptions/1.md). -/
def State.withFetchWord (s : State) (nbits w : Nat) : State := s.withEvents (accessEvent nbits w :: s.events)

end Sys2Proof.Machine
end

