-- ==== Sys2Proof/Machine/Program.lean ====
section
/-!
DEFINITION. Host programs (spec/30_encoding.md R89, R90): the access a line stands for, the pseudo-instructions, and how
their accesses run on the machine. A host's accesses are interleaved with the engine's turns in an order the spec leaves
open (spec/20_memory.md R63); here that order is an argument, the number of turns before each access.
-/

namespace Sys2Proof.Machine

/-- The register names of R89. -/
inductive HostReg where
  /-- DATA_IN, offset 0x00. -/
  | dataIn
  /-- KEY, offset 0x04. -/
  | key
  /-- CMD, offset 0x08. -/
  | cmd
  /-- STATUS, offset 0x0C. -/
  | status
  /-- RESULT, offset 0x10. -/
  | result
  deriving DecidableEq, Repr

/-- Register names stand for their offsets (R89; spec/10_state.md R22). -/
def regOffset : HostReg → BitVec 5
  | .dataIn => 0x00#5
  | .key => 0x04#5
  | .cmd => 0x08#5
  | .status => 0x0C#5
  | .result => 0x10#5

/-- `RD reg` (R89). -/
def rdLine (reg : HostReg) : Descriptor := encodeRead (regOffset reg) 0x00000000#32

/-- `WR reg, imm` (R89). -/
def wrLine (reg : HostReg) (imm : Word) : Descriptor := encodeWrite (regOffset reg) imm

/-- `ENC` (R90). -/
def encLine : Descriptor := wrLine .cmd 0x00000001#32

/-- `DEC` (R90). -/
def decLine : Descriptor := wrLine .cmd 0x00000002#32

/-- `LOAD b, k` (R90): KEY, then DATA_IN. -/
def loadLines (b k : Block) : List Descriptor := [wrLine .key (zext32 k), wrLine .dataIn (zext32 b)]

/-- The events of one access that `turns` turns of the engine go before. -/
def accessAfter (turns : Nat) (ht : Descriptor) : List Event := List.replicate turns .engineTurn ++ [.access ht]

/-- Let exactly the events `es` take place, one step each. -/
def deliver (es : List Event) (s : State) : Host.Outcome State Fault Refusal :=
  Sys2Proof.core.run es.length (s.withEvents es)

/-- The data of an answer that holds data. -/
def readData : Response → Option Word
  | .data w => some w
  | .idle => none
  | .okay => none
  | .error => none

/-- `WAIT` (R90): read STATUS until BUSY = 0. `polls` holds the engine's turns before each read. The answer is the state
after the read that showed BUSY = 0, or none where `polls` ends first (the loop is still running) or a step stops. -/
def waitLoop : List Nat → State → Option State
  | [], _ => none
  | turns :: polls, s =>
    match deliver (accessAfter turns (rdLine .status)) s with
    | .next t =>
      match readData t.resp with
      | some w => if w.getLsbD 0 then waitLoop polls t else some t
      | none => none
    | .fault _ => none
    | .refused _ => none

/-- A schedule of one RUN: the engine's turns before the KEY write, the DATA_IN write, the CMD write, each STATUS read
and the RESULT read. -/
structure RunSchedule where
  /-- Turns before the KEY write. -/
  beforeKey : Nat
  /-- Turns before the DATA_IN write. -/
  beforeData : Nat
  /-- Turns before the CMD write. -/
  beforeCmd : Nat
  /-- Turns before each STATUS read. -/
  polls : List Nat
  /-- Turns before the RESULT read. -/
  beforeResult : Nat
  deriving DecidableEq, Repr

/-- The events of a RUN up to and including its CMD write. -/
def runPrefix (sched : RunSchedule) (m : Word) (b k : Block) : List Event :=
  accessAfter sched.beforeKey (wrLine .key (zext32 k)) ++
    (accessAfter sched.beforeData (wrLine .dataIn (zext32 b)) ++
      accessAfter sched.beforeCmd (wrLine .cmd m))

/-- `RUN m, b, k` (R90): LOAD, the CMD write, WAIT, `RD RESULT`. The answer is the word read and the state after, or none
where the WAIT has not ended within the schedule or a step stops. -/
def runCommand (sched : RunSchedule) (m : Word) (b k : Block) (s : State) : Option (Word × State) :=
  match deliver (runPrefix sched m b k) s with
  | .next t =>
    match waitLoop sched.polls t with
    | some u =>
      match deliver (accessAfter sched.beforeResult (rdLine .result)) u with
      | .next v =>
        match readData v.resp with
        | some w => some (w, v)
        | none => none
      | .fault _ => none
      | .refused _ => none
    | none => none
  | .fault _ => none
  | .refused _ => none

/-- What the recommended use of the FTE ends with. -/
inductive UseResult where
  /-- ERR = NONE, and the word read from RESULT. -/
  | value (w : Word)
  /-- ERR was not NONE: its two bits as STATUS showed them. -/
  | error (code : BitVec 2)
  deriving DecidableEq, Repr

/-- The order of use that spec/70_reset_and_hazards.md R236 gives, from its step 2: wait for BUSY = 0 (R240), KEY and
DATA_IN, the CMD write, poll until BUSY = 0, check that ERR = NONE, read RESULT. `idlePolls` holds the engine's turns before
each STATUS read of the first wait. -/
def recommendedUse (idlePolls : List Nat) (sched : RunSchedule) (m : Word) (b k : Block) (s : State) :
    Option (UseResult × State) :=
  match waitLoop idlePolls s with
  | none => none
  | some s0 =>
    match deliver (runPrefix sched m b k) s0 with
    | .fault _ => none
    | .refused _ => none
    | .next t =>
      match waitLoop sched.polls t with
      | none => none
      | some u =>
        match readData u.resp with
        | none => none
        | some status =>
          if status.extractLsb' 2 2 = 0b00#2 then
            match deliver (accessAfter sched.beforeResult (rdLine .result)) u with
            | .fault _ => none
            | .refused _ => none
            | .next v =>
              match readData v.resp with
              | none => none
              | some w => some (.value w, v)
          else some (.error (status.extractLsb' 2 2), u)

end Sys2Proof.Machine
end

