-- ==== Sys2Proof/Machine/Adapter.lean ====
section
/-!
DEFINITION. The host adapter (spec/41_cipher_commands.md R150 to R153): host software, a reference and no part of `step`.
It presents the source's string operation `Transform(block, key, mode)` over the FTE. ADAPTER_PARITY is OPEN and an
argument here. A string is its list of characters (notes/assumptions/9.md).
-/

namespace Sys2Proof.Machine

/-- The two error kinds of the source (spec/60_exceptions.md R203). -/
inductive AdapterError where
  /-- FormatError: a block or key that is not a 16-character binary string. -/
  | format
  /-- InvalidModeError: a mode that is neither "encrypt" nor "decrypt". -/
  | invalidMode
  deriving DecidableEq, Repr

/-- A character of a binary string. -/
def isBinaryChar (c : Char) : Bool := c == '0' || c == '1'

/-- The number a binary string writes, most significant character first (spec/00_scope.md R9), after the prefix `acc`. -/
def binaryValue (acc : Nat) : List Char → Nat
  | [] => acc
  | c :: cs => binaryValue (2 * acc + (if c == '1' then 1 else 0)) cs

/-- PARSE16 (R150): none is FormatError. -/
def parse16 (s : List Char) : Option Block :=
  if s.length = 16 ∧ s.all isBinaryChar then some (BitVec.ofNat 16 (binaryValue 0 s)) else none

/-- The character at string position p of a Block: bit 15-p (R150; R9). -/
def charAt (v : Block) (p : Nat) : Char := if v.getLsbD (15 - p) then '1' else '0'

/-- FORMAT16 (R150). -/
def format16 (v : Block) : List Char := (List.range 16).map (charAt v)

/-- The mode string "encrypt". -/
def encryptMode : List Char := ['e', 'n', 'c', 'r', 'y', 'p', 't']

/-- The mode string "decrypt". -/
def decryptMode : List Char := ['d', 'e', 'c', 'r', 'y', 'p', 't']

/-- The direction a mode string names, exactly and with its case (R152); none is InvalidModeError. -/
def parseMode (s : List Char) : Option Direction :=
  if s = encryptMode then some .encrypt else if s = decryptMode then some .decrypt else none

/-- The command word of a direction: MODE 0b01 or 0b10, reserved bits 0 (R152; spec/30_encoding.md R85). -/
def commandWord : Direction → Word
  | .encrypt => 0x00000001#32
  | .decrypt => 0x00000002#32

/-- Valid inputs of the adapter. -/
structure AdapterInput where
  /-- PARSE16 of the block. -/
  block : Block
  /-- PARSE16 of the key. -/
  key : Block
  /-- The mode. -/
  dir : Direction
  deriving DecidableEq, Repr

/-- The adapter's validation, before any FTE access: block, then key, then mode; the first failure decides (R151). -/
def validateInput (block key mode : List Char) : Except AdapterError AdapterInput :=
  match parse16 block with
  | none => .error .format
  | some b =>
    match parse16 key with
    | none => .error .format
    | some k =>
      match parseMode mode with
      | none => .error .invalidMode
      | some d => .ok ⟨b, k, d⟩

/-- What the adapter gives its caller. -/
inductive AdapterOutput where
  /-- A 16-character string. -/
  | text (s : List Char)
  /-- A typed error (ADAPTER_PARITY = false). -/
  | typedError (e : AdapterError)
  deriving DecidableEq, Repr

/-- The adapter's answer, with whether it emitted a diagnostic. The diagnostic's content is "any value"
(spec/93_implementation_defined.md I3) and is not modelled. -/
structure AdapterResult where
  /-- What the caller gets. -/
  output : AdapterOutput
  /-- Whether a diagnostic was emitted. -/
  diagnostic : Bool
  deriving DecidableEq, Repr

/-- The sentinel string "0000000000000000" (R153). -/
def sentinelString : List Char := List.replicate 16 '0'

/-- The adapter's answer on failure (R153): the sentinel string and a diagnostic, or a typed error. -/
def failureResult (parity : Bool) (e : AdapterError) : AdapterResult :=
  if parity then ⟨.text sentinelString, true⟩ else ⟨.typedError e, false⟩

/-- Transform (R151 to R153): the answer and the FTE's state after. A failing Transform makes no FTE access. None where
the WAIT of the RUN has not ended within the schedule or a step stops. -/
def adapterTransform (parity : Bool) (sched : RunSchedule) (block key mode : List Char) (s : State) :
    Option (AdapterResult × State) :=
  match validateInput block key mode with
  | .error e => some (failureResult parity e, s)
  | .ok i =>
    match runCommand sched (commandWord i.dir) i.block i.key s with
    | some (w, t) => some (⟨.text (format16 (writeOperand w)), false⟩, t)
    | none => none

end Sys2Proof.Machine
end

