-- ==== Sys2Proof/Machine/Clock.lean ====
section
/-!
DEFINITION. Timing (spec/70_reset_and_hazards.md R245, R246; spec/60_exceptions.md R207): which events one clock cycle is.
LATENCY is OPEN and an argument here (spec/00_scope.md R7; spec/93_implementation_defined.md I7), with the reference value 4.
No rule of `step` depends on this file; it names schedules among those the untimed step admits (notes/assumptions/10.md).
-/

namespace Sys2Proof.Machine

/-- What the outside does in one cycle: whether `rst` is high, and at most one host access. -/
structure CycleInput where
  /-- `rst` sampled high. -/
  rst : Bool
  /-- A host access in this cycle. -/
  access : Option Descriptor
  deriving DecidableEq, Repr

/-- The FTE at the start of a clock cycle. -/
structure ClockedState where
  /-- The state at the start of the cycle: what a read in this cycle returns (R245). -/
  fte : State
  /-- This cycle's number counted from the accepting cycle of the command in flight, 1 in the cycle after it. It says
  nothing while BUSY = 0. -/
  elapsed : Nat
  deriving DecidableEq, Repr

/-- The access of a cycle as an event: it sees the state at the start of the cycle, so it comes before the rounds
(R245, R207: "write, then step"). -/
def accessEvents (inp : CycleInput) : List Event :=
  match inp.access with
  | some ht => [.access ht]
  | none => []

/-- How many rounds the cycles before the last one ask for, by their number counted from acceptance: one each in cycles
t+1, t+2, t+3 with the reference LATENCY (R245). For another LATENCY the spec does not place them: `early` is free data. -/
def earlyRounds (latency : Nat) (early : List Nat) : List Nat :=
  if latency = Config.referenceLatency then Config.referenceEarlyRounds else early

/-- The rounds made in cycle t+k of a command accepted in cycle t, with CTR = `done` so far: in cycle t+LATENCY all that
are left, so that BUSY reads 0 from cycle t+LATENCY+1; before it never the last one, so that BUSY reads 1 until then
(R245). -/
def roundsInCycle (latency : Nat) (early : List Nat) (k done : Nat) : Nat :=
  if latency ≤ k then Config.rounds - done
  else min ((earlyRounds latency early).getD k 0) (Config.rounds - 1 - done)

/-- The number of this cycle counted from acceptance: 0 in a cycle that starts with BUSY = 0, since a command in it is
accepted in it. -/
def ClockedState.cycleNumber (c : ClockedState) : Nat := if c.fte.busy then c.elapsed else 0

/-- The engine's turns of a cycle with number k whose host access has left the state `t`. -/
def turnsInCycle (latency : Nat) (early : List Nat) (k : Nat) (t : State) : List Event :=
  if t.busy then List.replicate (roundsInCycle latency early k t.ctr.toNat) .engineTurn else []

/-- The start of the next cycle, its number `k`, where the events of this one ended well. -/
def nextCycle (k : Nat) : Host.Outcome State Fault Refusal → Option ClockedState
  | .next t => some ⟨t, k⟩
  | .fault _ => none
  | .refused _ => none

/-- One clock cycle of an implementation with the given LATENCY: the reset alone where `rst` is high (R230), else the
host access and then the rounds of this cycle. None where a step stops. -/
def clockCycle (latency : Nat) (early : List Nat) (inp : CycleInput) (c : ClockedState) : Option ClockedState :=
  if inp.rst then nextCycle 0 (deliver [.reset inp.access] c.fte)
  else
    match deliver (accessEvents inp) c.fte with
    | .next t => nextCycle (c.cycleNumber + 1) (deliver (turnsInCycle latency early c.cycleNumber t) t)
    | .fault _ => none
    | .refused _ => none

/-- The start of the cycle after the given cycles, none where a step stops. -/
def clockRun (latency : Nat) (early : List Nat) : List CycleInput → ClockedState → Option ClockedState
  | [], c => some c
  | inp :: rest, c =>
    match clockCycle latency early inp c with
    | some c' => clockRun latency early rest c'
    | none => none

/-- Cycles with `rst` low and the given host accesses. -/
def accessCycles (as : List (Option Descriptor)) : List CycleInput := as.map (fun a => ⟨false, a⟩)

end Sys2Proof.Machine
end

