-- ==== Sys2Proof/Machine/Window.lean ====
section
/-!
DEFINITION. The register window in the host's address space (spec/20_memory.md R50 to R57) and how a platform's bus
access becomes a descriptor (spec/30_encoding.md R80). FTE_BASE is OPEN, so it is an argument here
(notes/assumptions/13.md); `step` itself never sees an address.
-/

namespace Sys2Proof.Machine

/-- One access a host puts on its bus: direction, host address, number of bytes, write data. -/
structure BusAccess where
  /-- True for a write. -/
  write : Bool
  /-- The host's physical address. -/
  addr : Nat
  /-- The number of bytes. -/
  bytes : Nat
  /-- The write data. -/
  wdata : Word
  deriving DecidableEq, Repr

/-- An access reaches the window when its address is one of the window's (R50). -/
def reachesWindow (base addr : Nat) : Bool := decide (base ≤ addr) && decide (addr < base + Config.windowBytes)

/-- `off = A - FTE_BASE`, 5 bits (R50). -/
def windowOffset (base addr : Nat) : BitVec 5 := BitVec.ofNat 5 (addr - base)

/-- The byte count becomes SIZE (R80, R81). -/
def sizeOfBytes (n : Nat) : AccessSize :=
  if n = 1 then .bits8 else if n = 2 then .bits16 else if n = 4 then .bits32 else .other

/-- The descriptor of an access that reaches the window, and none for one that does not (R50, R80). WDATA is 0 for a
read (R80). -/
def descriptorOfBus (base : Nat) (a : BusAccess) : Option Descriptor :=
  if reachesWindow base a.addr then
    some (encodeFields a.write (sizeOfBytes a.bytes) (windowOffset base a.addr) (if a.write then a.wdata else 0#32))
  else none

/-- The events at the FTE of one bus access: none where it does not reach the window (R50). -/
def eventsOfBus (base : Nat) (a : BusAccess) : List Event :=
  match descriptorOfBus base a with
  | some ht => [.access ht]
  | none => []

/-- Byte lane n of the 32-bit data: bits 8n+7 to 8n (R57). -/
def byteLane (w : Word) (n : Nat) : BitVec 8 := w.extractLsb' (8 * n) 8

end Sys2Proof.Machine
end

