-- ==== Sys2Proof/Safety.lean ====
section
/-!
DEFINITION. What counts as a good state, a final state and a legal event, in the terms the statements use
(spec/10_state.md R36, R34, R30; spec/60_exceptions.md R205).
-/

namespace Sys2Proof.Machine

/-- The invariants of R36, with R34's range of CTR. -/
abbrev State.Inv (s : State) : Prop :=
  (s.busy = true → s.ctr.toNat ≤ 3 ∧ s.done = false ∧ s.err = .none) ∧
  (s.done = true → s.busy = false) ∧
  (s.err ≠ .none → s.done = true ∧ s.err = .invalidMode) ∧
  (s.err ≠ .format ∧ s.err ≠ .reserved) ∧
  s.ctr.toNat ≤ 4

/-- What RESULT is while the last command stands completed (R30): after a cipher command the output of its final round
state, after an invalid-mode command the sentinel. -/
abbrev State.ResultAgrees (s : State) : Prop :=
  (s.done = true → s.err = .none → s.ctr.toNat = 4 ∧ s.result = exitBlock s.dir s.l s.r) ∧
  (s.err = .invalidMode → s.result = 0x0000#16)

/-- The machine goes on from `s`: no fault mark stands and ERR holds a code the FTE writes. -/
abbrev State.Live (s : State) : Prop := stopReason s = none

/-- A run that has ended well: no event pending, no command in flight, no fault mark. "A state with the mark is never
final" (spec/60_exceptions.md R205). -/
abbrev State.Final (s : State) : Prop := s.events = [] ∧ s.busy = false ∧ s.faultMark = none

/-- `t` is reached from reset by some events, in some order. -/
def Reachable (t : State) : Prop :=
  ∃ (n : Nat) (es : List Event), Sys2Proof.core.run n (State.reset.withEvents es) = .next t

/-- The illegal accesses (spec/30_encoding.md R87): those that raise BusError. -/
def raisesBusError : Instr → Bool
  | .rdDataIn _ => false
  | .rdKey _ => false
  | .rdCmd _ => false
  | .rdStatus _ => false
  | .rdResult _ => false
  | .wrDataIn _ => false
  | .wrKey _ => false
  | .wrStatus _ => false
  | .wrResult _ => false
  | .encrypt _ => false
  | .decrypt _ => false
  | .invalidMode00 _ => false
  | .invalidMode11 _ => false
  | .rdRsvd14 _ => false
  | .rdRsvd18 _ => false
  | .rdRsvd1C _ => false
  | .wrRsvd14 _ => false
  | .wrRsvd18 _ => false
  | .wrRsvd1C _ => false
  | .busErrSize8 _ _ _ => true
  | .busErrSize16 _ _ _ => true
  | .busErrSizeOther _ _ _ => true
  | .busErrAlignOdd _ _ _ => true
  | .busErrAlign2 _ _ _ => true

/-- The CMD writes. -/
def isCmdWrite : Instr → Bool
  | .encrypt _ => true
  | .decrypt _ => true
  | .invalidMode00 _ => true
  | .invalidMode11 _ => true
  | .rdDataIn _ => false
  | .rdKey _ => false
  | .rdCmd _ => false
  | .rdStatus _ => false
  | .rdResult _ => false
  | .wrDataIn _ => false
  | .wrKey _ => false
  | .wrStatus _ => false
  | .wrResult _ => false
  | .rdRsvd14 _ => false
  | .rdRsvd18 _ => false
  | .rdRsvd1C _ => false
  | .wrRsvd14 _ => false
  | .wrRsvd18 _ => false
  | .wrRsvd1C _ => false
  | .busErrSize8 _ _ _ => false
  | .busErrSize16 _ _ _ => false
  | .busErrSizeOther _ _ _ => false
  | .busErrAlignOdd _ _ _ => false
  | .busErrAlign2 _ _ _ => false

/-- The CMD writes that select a cipher command (spec/30_encoding.md R85). -/
def startsCipher : Instr → Bool
  | .encrypt _ => true
  | .decrypt _ => true
  | .invalidMode00 _ => false
  | .invalidMode11 _ => false
  | .rdDataIn _ => false
  | .rdKey _ => false
  | .rdCmd _ => false
  | .rdStatus _ => false
  | .rdResult _ => false
  | .wrDataIn _ => false
  | .wrKey _ => false
  | .wrStatus _ => false
  | .wrResult _ => false
  | .rdRsvd14 _ => false
  | .rdRsvd18 _ => false
  | .rdRsvd1C _ => false
  | .wrRsvd14 _ => false
  | .wrRsvd18 _ => false
  | .wrRsvd1C _ => false
  | .busErrSize8 _ _ _ => false
  | .busErrSize16 _ _ _ => false
  | .busErrSizeOther _ _ _ => false
  | .busErrAlignOdd _ _ _ => false
  | .busErrAlign2 _ _ _ => false

/-- An event that neither resets nor is an illegal access: what may come between a command's acceptance and its
completion in spec/41_cipher_commands.md R144. -/
def Event.undisturbing : Event → Bool
  | .access ht => !raisesBusError (decodeDescriptor ht)
  | .engineTurn => true
  | .reset _ => false

/-- The CMD write that selects a direction (spec/30_encoding.md R85), with its reserved bits. -/
def commandOf (d : Direction) (rsvd : BitVec 30) : Instr :=
  match d with
  | .encrypt => .encrypt rsvd
  | .decrypt => .decrypt rsvd

/-- Two states the host cannot tell apart (spec/10_state.md R38): what it can read, and what is pending, agree; the
round state, the subkeys, the direction and the counter agree while a command is in flight. -/
abbrev HostEquivalent (s t : State) : Prop :=
  s.dataIn = t.dataIn ∧ s.key = t.key ∧ s.result = t.result ∧ s.busy = t.busy ∧ s.done = t.done ∧ s.err = t.err ∧
  s.faultMark = t.faultMark ∧ s.resp = t.resp ∧ s.events = t.events ∧
  (s.busy = true →
    s.l = t.l ∧ s.r = t.r ∧ s.sk1 = t.sk1 ∧ s.sk2 = t.sk2 ∧ s.dir = t.dir ∧ s.ctr = t.ctr)

/-- The number of engine turns among the events. -/
def engineTurns (es : List Event) : Nat := es.count .engineTurn

end Sys2Proof.Machine
end

