-- ==== Sys2Proof/Certificates/Slice0/Obligations.lean ====
section
/-!
DEFINITION. The statements for the provers, from the spec's numbered rules. A statement about an instruction gives the
whole next state as an update of the state before, so that it says the result and the frame at once: a field it does not
name is unchanged. The FTE has no memory (spec/10_state.md R40), so a frame has no memory clause.

Where a statement rests on a choice of the model, its docstring says so and names the assumption log's row.
-/

open Sys2Proof Sys2Proof.Machine

/-! ### Encoding -/

/-- A few descriptors the spec writes out (R83; spec/95_test_vectors.md P1, V-C3, V-BE1, V-BE5) decode to the accesses
they stand for. -/
def Obligations.SpecDescriptorsDecode : Prop :=
  decodeTableWord 40 0xC40000AA55 = some (.wrKey 0x0000AA55#32) ∧
  decodeTableWord 40 0xC00000ACAA = some (.wrDataIn 0x0000ACAA#32) ∧
  decodeTableWord 40 0xC800000001 = some (.encrypt 0#30) ∧
  decodeTableWord 40 0xC8FFFFFFFD = some (.encrypt 0x3FFFFFFF#30) ∧
  decodeTableWord 40 0x4C00000000 = some (.rdStatus 0#32) ∧
  decodeTableWord 40 0x8800000001 = some (.busErrSize8 true 0x08#5 1#32) ∧
  decodeTableWord 40 0xCA00000001 = some (.busErrAlign2 true 0x0A#5 1#32)

/-- Decoding an encoded well-formed instruction gives it back, with every operand at every value. That the ignored bits
of a row are operands is the model's choice (notes/assumptions/8.md). -/
def Obligations.DecodeOfEncodeIsTheInstruction : Prop :=
  ∀ i : Instr, i.wellFormed = true → decodeDescriptor (encode i) = i

/-- Every one of the 2^40 descriptors is the encoding of exactly one well-formed instruction, the one it decodes to. That
the ignored bits of a row are operands is the model's choice (notes/assumptions/8.md). -/
def Obligations.EveryDescriptorEncodesOneInstruction : Prop :=
  ∀ ht : Descriptor,
    (decodeDescriptor ht).wellFormed = true ∧ encode (decodeDescriptor ht) = ht ∧
    ∀ i : Instr, i.wellFormed = true → encode i = ht → i = decodeDescriptor ht

/-- R82's totality against the table itself: exactly one row of spec/opcode_table.json covers a descriptor, and it is the
row of the instruction the descriptor decodes to. -/
def Obligations.ExactlyOneTableRowCoversADescriptor : Prop :=
  ∀ ht : Descriptor,
    (opcodeRows.filter (fun r => r.covers ht)).map OpcodeRow.mnemonic = [mnemonicOf (decodeDescriptor ht)]

/-- R83: byte 4 of HT is `WE*0x80 + SIZE*0x20 + OFF`, and fully identifies every legal register access. -/
def Obligations.ByteFourIdentifiesEveryLegalAccess : Prop :=
  ∀ ht : Descriptor,
    (byteOfDescriptor ht 4).toNat = (ht.getLsbD 39).toNat * 0x80 + (ht.toNat / 2 ^ 37 % 4) * 0x20 + ht.toNat / 2 ^ 32 % 32 ∧
    (raisesBusError (decodeDescriptor ht) = false ↔
      byteOfDescriptor ht 4 ∈ [0x40#8, 0x44#8, 0x48#8, 0x4C#8, 0x50#8, 0x54#8, 0x58#8, 0x5C#8,
        0xC0#8, 0xC4#8, 0xC8#8, 0xCC#8, 0xD0#8, 0xD4#8, 0xD8#8, 0xDC#8]) ∧
    (byteOfDescriptor ht 4 = 0x40#8 → mnemonicOf (decodeDescriptor ht) = "RD_DATA_IN") ∧
    (byteOfDescriptor ht 4 = 0x44#8 → mnemonicOf (decodeDescriptor ht) = "RD_KEY") ∧
    (byteOfDescriptor ht 4 = 0x48#8 → mnemonicOf (decodeDescriptor ht) = "RD_CMD") ∧
    (byteOfDescriptor ht 4 = 0x4C#8 → mnemonicOf (decodeDescriptor ht) = "RD_STATUS") ∧
    (byteOfDescriptor ht 4 = 0x50#8 → mnemonicOf (decodeDescriptor ht) = "RD_RESULT") ∧
    (byteOfDescriptor ht 4 = 0x54#8 → mnemonicOf (decodeDescriptor ht) = "RD_RSVD_14") ∧
    (byteOfDescriptor ht 4 = 0x58#8 → mnemonicOf (decodeDescriptor ht) = "RD_RSVD_18") ∧
    (byteOfDescriptor ht 4 = 0x5C#8 → mnemonicOf (decodeDescriptor ht) = "RD_RSVD_1C") ∧
    (byteOfDescriptor ht 4 = 0xC0#8 → mnemonicOf (decodeDescriptor ht) = "WR_DATA_IN") ∧
    (byteOfDescriptor ht 4 = 0xC4#8 → mnemonicOf (decodeDescriptor ht) = "WR_KEY") ∧
    (byteOfDescriptor ht 4 = 0xC8#8 ↔ isCmdWrite (decodeDescriptor ht) = true) ∧
    (byteOfDescriptor ht 4 = 0xCC#8 → mnemonicOf (decodeDescriptor ht) = "WR_STATUS") ∧
    (byteOfDescriptor ht 4 = 0xD0#8 → mnemonicOf (decodeDescriptor ht) = "WR_RESULT") ∧
    (byteOfDescriptor ht 4 = 0xD4#8 → mnemonicOf (decodeDescriptor ht) = "WR_RSVD_14") ∧
    (byteOfDescriptor ht 4 = 0xD8#8 → mnemonicOf (decodeDescriptor ht) = "WR_RSVD_18") ∧
    (byteOfDescriptor ht 4 = 0xDC#8 → mnemonicOf (decodeDescriptor ht) = "WR_RSVD_1C")

/-- R141 with the MODE codes of R85: WDATA[31:2] of a CMD write takes no part in decoding and is not stored. -/
def Obligations.ReservedCommandBitsAreIgnored : Prop :=
  (∀ rsvd : BitVec 30,
    decodeDescriptor (0xC8#8 ++ (rsvd ++ 0b01#2)) = .encrypt rsvd ∧
    decodeDescriptor (0xC8#8 ++ (rsvd ++ 0b10#2)) = .decrypt rsvd ∧
    decodeDescriptor (0xC8#8 ++ (rsvd ++ 0b00#2)) = .invalidMode00 rsvd ∧
    decodeDescriptor (0xC8#8 ++ (rsvd ++ 0b11#2)) = .invalidMode11 rsvd) ∧
  (∀ (rsvd rsvd' : BitVec 30) (s : State),
    exec (.encrypt rsvd) s = exec (.encrypt rsvd') s ∧
    exec (.decrypt rsvd) s = exec (.decrypt rsvd') s ∧
    exec (.invalidMode00 rsvd) s = exec (.invalidMode00 rsvd') s ∧
    exec (.invalidMode11 rsvd) s = exec (.invalidMode11 rsvd') s)

/-! ### Register accesses -/

/-- RD_DATA_IN, RD_STATUS and RD_RESULT complete from every state with the register's 32-bit value, and change nothing
else. `resp` shows the bus answer (notes/assumptions/3.md). -/
def Obligations.ReadsOfDataInStatusAndResult : Prop :=
  ∀ (w : Word) (s : State),
    exec (.rdDataIn w) s = .next { s with resp := .data (s.dataIn.zeroExtend 32) } ∧
    exec (.rdStatus w) s =
      .next { s with resp := .data ((s.err.bits ++ BitVec.ofBool s.done ++ BitVec.ofBool s.busy).zeroExtend 32) } ∧
    exec (.rdResult w) s = .next { s with resp := .data (s.result.zeroExtend 32) }

/-- RD_KEY (R163), RD_CMD (R165) and RD_RSVD (R170): their encodings, their read data, and no state change. `resp` shows
the bus answer (notes/assumptions/3.md). -/
def Obligations.ReadsOfKeyCmdAndReserved : Prop :=
  ∀ (w : Word) (s : State),
    (decodeDescriptor (0x44#8 ++ w) = .rdKey w ∧
      exec (.rdKey w) s = .next { s with resp := .data (s.key.zeroExtend 32) }) ∧
    (decodeDescriptor (0x48#8 ++ w) = .rdCmd w ∧ exec (.rdCmd w) s = .next { s with resp := .data 0#32 }) ∧
    (decodeDescriptor (0x54#8 ++ w) = .rdRsvd14 w ∧ exec (.rdRsvd14 w) s = .next { s with resp := .data 0#32 }) ∧
    (decodeDescriptor (0x58#8 ++ w) = .rdRsvd18 w ∧ exec (.rdRsvd18 w) s = .next { s with resp := .data 0#32 }) ∧
    (decodeDescriptor (0x5C#8 ++ w) = .rdRsvd1C w ∧ exec (.rdRsvd1C w) s = .next { s with resp := .data 0#32 })

/-- WR_DATA_IN (R162) and WR_KEY (R164): their encodings, the register takes WDATA[15:0], nothing else changes, whether a
command is in flight or not. `resp` shows the bus answer (notes/assumptions/3.md). -/
def Obligations.WritesOfDataInAndKey : Prop :=
  ∀ (w : Word) (s : State),
    (decodeDescriptor (0xC0#8 ++ w) = .wrDataIn w ∧
      exec (.wrDataIn w) s = .next { s with dataIn := w.extractLsb' 0 16, resp := .okay }) ∧
    (decodeDescriptor (0xC4#8 ++ w) = .wrKey w ∧
      exec (.wrKey w) s = .next { s with key := w.extractLsb' 0 16, resp := .okay })

/-- WR_RESULT (R168) and WR_RSVD (R171): their encodings, OKAY, no state change. `resp` shows the bus answer
(notes/assumptions/3.md). -/
def Obligations.WritesOfResultAndReservedAreIgnored : Prop :=
  ∀ (w : Word) (s : State),
    (decodeDescriptor (0xD0#8 ++ w) = .wrResult w ∧ exec (.wrResult w) s = .next { s with resp := .okay }) ∧
    (decodeDescriptor (0xD4#8 ++ w) = .wrRsvd14 w ∧ exec (.wrRsvd14 w) s = .next { s with resp := .okay }) ∧
    (decodeDescriptor (0xD8#8 ++ w) = .wrRsvd18 w ∧ exec (.wrRsvd18 w) s = .next { s with resp := .okay }) ∧
    (decodeDescriptor (0xDC#8 ++ w) = .wrRsvd1C w ∧ exec (.wrRsvd1C w) s = .next { s with resp := .okay })

/-- WR_STATUS (R169): its encoding, OKAY, no state change; and the only ways to clear DONE and ERR are to accept a command
or to reset. -/
def Obligations.StatusIsClearedOnlyByACommandOrReset : Prop :=
  (∀ (w : Word) (s : State),
    decodeDescriptor (0xCC#8 ++ w) = .wrStatus w ∧ exec (.wrStatus w) s = .next { s with resp := .okay }) ∧
  (∀ s t : State, step s = .next t →
    (s.done = true ∧ t.done = false) ∨ (s.err ≠ .none ∧ t.err = .none) →
    (∃ es, s.events = .reset none :: es) ∨
    (∃ ht es, s.events = .access ht :: es ∧ isCmdWrite (decodeDescriptor ht) = true ∧ s.busy = false))

/-- R59 and R160: an access that is no CMD write and no illegal access leaves RESULT, STATUS and the command in flight as
they were, and made twice in a row leaves the same state as made once. -/
def Obligations.OrdinaryAccessesAreIdempotent : Prop :=
  ∀ (i : Instr) (s : State), isCmdWrite i = false → raisesBusError i = false →
    ∃ t, exec i s = .next t ∧ exec i t = .next t ∧
      t.result = s.result ∧ t.busy = s.busy ∧ t.done = s.done ∧ t.err = s.err ∧ t.l = s.l ∧ t.r = s.r ∧
      t.sk1 = s.sk1 ∧ t.sk2 = s.sk2 ∧ t.dir = s.dir ∧ t.ctr = s.ctr ∧ t.faultMark = s.faultMark ∧ t.events = s.events

/-! ### Commands -/

/-- R136, for ENCRYPT and DECRYPT, where BUSY = 0: the operands are copied, the initial round state of the direction is
loaded, the FTE is busy, and RESULT is unchanged; DONE and ERR are cleared (R135). A later write to DATA_IN or KEY changes
none of what was copied. `resp` shows the bus answer (notes/assumptions/3.md). -/
def Obligations.ValidCommandIsAccepted : Prop :=
  (∀ (rsvd : BitVec 30) (s : State), s.busy = false →
    exec (.encrypt rsvd) s = .next { s with
      done := false, err := .none, busy := true, ctr := 0#3, dir := .encrypt,
      sk1 := s.key.extractLsb' 8 8, sk2 := s.key.extractLsb' 0 8,
      l := s.dataIn.extractLsb' 8 8, r := s.dataIn.extractLsb' 0 8, resp := .okay } ∧
    exec (.decrypt rsvd) s = .next { s with
      done := false, err := .none, busy := true, ctr := 0#3, dir := .decrypt,
      sk1 := s.key.extractLsb' 8 8, sk2 := s.key.extractLsb' 0 8,
      l := s.dataIn.extractLsb' 0 8, r := s.dataIn.extractLsb' 8 8, resp := .okay }) ∧
  (∀ (i : Instr) (w : Word) (s : State), i = .wrDataIn w ∨ i = .wrKey w →
    ∃ t, exec i s = .next t ∧ t.l = s.l ∧ t.r = s.r ∧ t.sk1 = s.sk1 ∧ t.sk2 = s.sk2 ∧ t.dir = s.dir ∧ t.ctr = s.ctr ∧
      t.busy = s.busy)

/-- R139: an invalid-mode command completes in its accepting access with the sentinel and ERR = INVALID_MODE (STATUS reads
0xA); BUSY and every other register are unchanged. While BUSY = 1 it is dropped. `resp` shows the bus answer
(notes/assumptions/3.md). -/
def Obligations.InvalidModeCompletesAtOnce : Prop :=
  ∀ (rsvd : BitVec 30) (s : State),
    decodeDescriptor (0xC8#8 ++ (rsvd ++ 0b00#2)) = .invalidMode00 rsvd ∧
    decodeDescriptor (0xC8#8 ++ (rsvd ++ 0b11#2)) = .invalidMode11 rsvd ∧
    (s.busy = false → ∃ t,
      t = { s with result := 0x0000#16, done := true, err := .invalidMode, resp := .okay } ∧
      exec (.invalidMode00 rsvd) s = .next t ∧ exec (.invalidMode11 rsvd) s = .next t ∧ statusWord t = 0x0000000A#32) ∧
    (s.busy = true →
      exec (.invalidMode00 rsvd) s = .next { s with resp := .okay } ∧
      exec (.invalidMode11 rsvd) s = .next { s with resp := .okay })

/-- R140: every CMD write while BUSY = 1 is dropped, with an OKAY response. `resp` shows the bus answer
(notes/assumptions/3.md). -/
def Obligations.CmdWriteWhileBusyIsDropped : Prop :=
  ∀ (i : Instr) (s : State), isCmdWrite i = true → s.busy = true → exec i s = .next { s with resp := .okay }

/-! ### Illegal accesses -/

/-- R172: an access of 8, 16 or another size, whatever its WE, OFF and WDATA, raises BusError: an error response and no
register change. The fault mark (R205) records the access. -/
def Obligations.WrongSizeRaisesBusError : Prop :=
  ∀ (we : Bool) (off : BitVec 5) (w : Word) (s : State), s.faultMark = none →
    (decodeDescriptor (BitVec.ofBool we ++ 0b00#2 ++ off ++ w) = .busErrSize8 we off w ∧
      exec (.busErrSize8 we off w) s = .next { s with faultMark := some ⟨we, .bits8, off⟩, resp := .error }) ∧
    (decodeDescriptor (BitVec.ofBool we ++ 0b01#2 ++ off ++ w) = .busErrSize16 we off w ∧
      exec (.busErrSize16 we off w) s = .next { s with faultMark := some ⟨we, .bits16, off⟩, resp := .error }) ∧
    (decodeDescriptor (BitVec.ofBool we ++ 0b11#2 ++ off ++ w) = .busErrSizeOther we off w ∧
      exec (.busErrSizeOther we off w) s = .next { s with faultMark := some ⟨we, .other, off⟩, resp := .error })

/-- R173: a 32-bit access with OFF[1:0] not 0, whatever its WE and WDATA, raises BusError: an error response and no register
change. The fault mark (R205) records the access. -/
def Obligations.MisalignedAccessRaisesBusError : Prop :=
  ∀ (we : Bool) (off : BitVec 5) (w : Word) (s : State), s.faultMark = none →
    (off.getLsbD 0 = true →
      decodeDescriptor (BitVec.ofBool we ++ 0b10#2 ++ off ++ w) = .busErrAlignOdd we off w) ∧
    (off.getLsbD 0 = false → off.getLsbD 1 = true →
      decodeDescriptor (BitVec.ofBool we ++ 0b10#2 ++ off ++ w) = .busErrAlign2 we off w) ∧
    exec (.busErrAlignOdd we off w) s = .next { s with faultMark := some ⟨we, .bits32, off⟩, resp := .error } ∧
    exec (.busErrAlign2 we off w) s = .next { s with faultMark := some ⟨we, .bits32, off⟩, resp := .error }

/-- A BusError where the fault mark already stands keeps the mark: the model's choice (notes/assumptions/5.md). -/
def Obligations.StandingFaultMarkIsKept : Prop :=
  ∀ (i : Instr) (e : BusError) (s : State), raisesBusError i = true → s.faultMark = some e →
    exec i s = .next { s with resp := .error }

/-- R205: a BusError sets the fault mark, which records the access; no step clears it, not even a reset; a state with the
mark is never final. That every step but a reset cycle stops there is D31's "no runs past the fault". -/
def Obligations.FaultMarkIsNeverCleared : Prop :=
  (∀ (s t : State) (ht : Descriptor) (es : List Event),
    s.faultMark = none → s.events = .access ht :: es → raisesBusError (decodeDescriptor ht) = true → step s = .next t →
      t.faultMark = some ⟨descWe ht, sizeOfCode (descSize ht), descOff ht⟩) ∧
  (∀ (s t : State) (e : BusError), s.faultMark = some e → step s = .next t → t.faultMark = some e) ∧
  (∀ (s : State) (e : BusError), s.faultMark = some e →
    ¬ s.Final ∧
    ((∀ during es, s.events ≠ .reset during :: es) → step s = .fault (.pastBusError e)))

/-- The code in ERR that the FTE never writes stops every step but a reset cycle: `stuck` (spec/93_implementation_defined.md
I13, I14; notes/assumptions/6.md). -/
def Obligations.NeverWrittenErrCodeIsStuck : Prop :=
  ∀ s : State, s.faultMark = none → s.err = .format ∨ s.err = .reserved →
    (∀ during es, s.events ≠ .reset during :: es) → step s = .fault (.errCodeNeverWritten s.err)

/-! ### Steps -/

/-- A host access that comes next is decoded and run on the state with that access taken off the pending events, where the
machine goes on (no fault mark, an ERR code the FTE writes). The list of pending events is the model's
(notes/assumptions/1.md). -/
def Obligations.StepRunsTheDecodedAccess : Prop :=
  ∀ (s : State) (ht : Descriptor) (es : List Event), s.Live → s.events = .access ht :: es →
    step s = exec (decodeDescriptor ht) { s with events := es }

/-- The access placed by `withFetchWord` is the very next one to run (notes/assumptions/1.md). -/
def Obligations.PlacedAccessRunsNext : Prop :=
  ∀ (s : State) (w : Nat) (i : Instr), s.Live → decodeTableWord 40 w = some i → step (s.withFetchWord 40 w) = exec i s

/-- R143: one engine step performs round j = CTR + 1 under the selected subkey, and with j = 4 completes the command. -/
def Obligations.EngineStepPerformsOneRound : Prop :=
  ∀ (s : State) (es : List Event), s.Live → s.busy = true → s.ctr.toNat ≤ 3 → s.events = .engineTurn :: es →
    let j := s.ctr.toNat + 1
    let k := if (j % 2 = 1 ∧ s.dir = .encrypt) ∨ (j % 2 = 0 ∧ s.dir = .decrypt) then s.sk1 else s.sk2
    let l := s.r
    let r := s.l ^^^ roundF s.r k
    (j < 4 → step s = .next { s with l := l, r := r, ctr := s.ctr + 1#3, events := es }) ∧
    (j = 4 → step s = .next { s with
      l := l, r := r, ctr := 4#3, result := if s.dir = .encrypt then l ++ r else r ++ l,
      busy := false, done := true, events := es })

/-- R142: the engine's step is enabled exactly when BUSY = 1. In a state whose CTR is legal for a busy FTE, its turn
advances CTR where BUSY = 1; where BUSY = 0 it has no step, and its turn changes nothing. -/
def Obligations.EngineIsEnabledExactlyWhenBusy : Prop :=
  ∀ (s : State) (es : List Event), s.Live → s.events = .engineTurn :: es →
    (s.busy = false → step s = .next { s with events := es }) ∧
    (s.busy = true → s.ctr.toNat ≤ 3 → ∃ t, step s = .next t ∧ t.ctr.toNat = s.ctr.toNat + 1)

/-- BUSY = 1 with CTR above 3 has no engine step: R34 lets CTR advance only from 3 or less (notes/assumptions/6.md). -/
def Obligations.EngineStopsOnAnIllegalCounter : Prop :=
  ∀ (s : State) (es : List Event), s.Live → s.busy = true → 3 < s.ctr.toNat → s.events = .engineTurn :: es →
    step s = .fault (.roundCounterOutOfRange s.ctr)

/-- With no event pending it is the engine's turn: the model's reading of R63's weak fairness (notes/assumptions/2.md). -/
def Obligations.NothingPendingIsTheEnginesTurn : Prop :=
  ∀ s : State, s.events = [] → step s = step { s with events := [.engineTurn] }

/-! ### Reset -/

/-- R41 and R232: a reset cycle puts every state element at its reset value, whatever the state was, a command in flight
included. -/
def Obligations.ResetCycleSetsEveryElement : Prop :=
  ∀ (s : State) (es : List Event), s.events = .reset none :: es →
    ∃ t, step s = .next t ∧ t.dataIn = 0x0000#16 ∧ t.key = 0x0000#16 ∧ t.result = 0x0000#16 ∧ t.busy = false ∧
      t.done = false ∧ t.err = .none ∧ t.l = 0x00#8 ∧ t.r = 0x00#8 ∧ t.sk1 = 0x00#8 ∧ t.sk2 = 0x00#8 ∧
      t.dir = .encrypt ∧ t.ctr = 0#3 ∧ statusWord t = 0x00000000#32

/-- What a reset cycle does to the rest of State: the fault mark is kept (R205), the answer shown is taken back and the
pending events stay, both the model's choice (notes/assumptions/11.md). -/
def Obligations.ResetCycleKeepsTheFaultMark : Prop :=
  ∀ (s : State) (es : List Event), s.events = .reset none :: es →
    step s = .next { State.reset with faultMark := s.faultMark, events := es }

/-- R231: after reset the five registers read 0, and a command is accepted at once. -/
def Obligations.AfterResetRegistersReadZero : Prop :=
  ∀ (w : Word) (rsvd : BitVec 30) (i : Instr),
    i = .rdDataIn w ∨ i = .rdKey w ∨ i = .rdCmd w ∨ i = .rdStatus w ∨ i = .rdResult w →
    exec i State.reset = .next { State.reset with resp := .data 0x00000000#32 } ∧
    (∃ t, exec (.encrypt rsvd) State.reset = .next t ∧ t.busy = true) ∧
    (∃ t, exec (.decrypt rsvd) State.reset = .next t ∧ t.busy = true)

/-- R230, I10: a host access in a reset cycle has no step in the model. -/
def Obligations.AccessDuringResetIsRefused : Prop :=
  ∀ (s : State) (ht : Descriptor) (es : List Event), s.events = .reset (some ht) :: es →
    step s = .refused .accessDuringReset

/-! ### Invariants -/

/-- The reset state meets both invariants. -/
def Obligations.ResetMeetsTheInvariants : Prop :=
  State.reset.Inv ∧ State.reset.ResultAgrees ∧ State.reset.Live

/-- Every step keeps the invariants of R36 and R34's range of CTR. -/
def Obligations.StepKeepsTheStatusInvariant : Prop :=
  ∀ s t : State, s.Inv → step s = .next t → t.Inv

/-- Every step keeps that RESULT is the output of the last completed command (R30): the exit block of its final round
state, or the sentinel after an invalid mode. -/
def Obligations.StepKeepsResultAgreement : Prop :=
  ∀ s t : State, s.Inv → s.ResultAgrees → step s = .next t → t.ResultAgrees

/-- R36, of every state that some events reach from reset. -/
def Obligations.ReachableStatesMeetR36 : Prop :=
  ∀ t : State, Reachable t →
    (t.busy = true → (t.ctr = 0#3 ∨ t.ctr = 1#3 ∨ t.ctr = 2#3 ∨ t.ctr = 3#3) ∧ t.done = false ∧ t.err = .none) ∧
    (t.done = true → t.busy = false) ∧
    (t.err ≠ .none → t.done = true ∧ t.err = .invalidMode) ∧
    t.err ≠ .format ∧ t.err ≠ .reserved

/-- R166: the values STATUS reads as in reachable states are exactly 0x0, 0x1, 0x2 and 0xA. -/
def Obligations.StatusReadsExactlyFourValues : Prop :=
  ∀ v : Word, (∃ t, Reachable t ∧ statusWord t = v) ↔
    v ∈ [0x00000000#32, 0x00000001#32, 0x00000002#32, 0x0000000A#32]

/-- R203: from every state that meets the invariant, with no fault mark and no host access issued in a reset cycle, the step
has a next state; an event that is no illegal access leaves the fault mark absent, a host access that is none gets no error
response, and no event but an invalid-mode CMD write records an error in ERR. -/
def Obligations.UnmarkedStatesHaveAStep : Prop :=
  ∀ s : State, s.Inv → s.faultMark = none → (∀ ht es, s.events ≠ .reset (some ht) :: es) →
    ∃ t, step s = .next t ∧
      ((∀ ht es, s.events = .access ht :: es → raisesBusError (decodeDescriptor ht) = false) → t.faultMark = none) ∧
      (∀ ht es, s.events = .access ht :: es → raisesBusError (decodeDescriptor ht) = false → t.resp ≠ .error) ∧
      ((∀ ht es, s.events = .access ht :: es →
          isCmdWrite (decodeDescriptor ht) = true → startsCipher (decodeDescriptor ht) = true) →
        t.err = s.err ∨ t.err = .none)

/-- R27: what sets BUSY and what clears it, and that no other event writes it. -/
def Obligations.BusyIsWrittenOnlyAsR27Says : Prop :=
  ∀ (s t : State) (e : Event) (es : List Event), s.events = e :: es → step s = .next t →
    (s.busy = false →
      (t.busy = true ↔ ∃ ht, e = .access ht ∧ startsCipher (decodeDescriptor ht) = true)) ∧
    (s.busy = true → (t.busy = false ↔ e = .reset none ∨ (e = .engineTurn ∧ s.ctr = 3#3)))

/-- R30: RESULT changes only when a command completes (the engine's fourth round, or an accepted invalid mode) and at
reset. -/
def Obligations.ResultIsWrittenOnlyAtCompletion : Prop :=
  ∀ s t : State, step s = .next t → t.result ≠ s.result →
    (∃ es, s.events = .reset none :: es) ∨
    (s.busy = true ∧ t.busy = false ∧ t.done = true) ∨
    (s.busy = false ∧ t.done = true ∧ t.err = .invalidMode ∧
      ∃ ht es, s.events = .access ht :: es ∧ isCmdWrite (decodeDescriptor ht) = true ∧
        startsCipher (decodeDescriptor ht) = false)

/-- R32, R33, R241: no step of a command in flight changes its subkeys or its direction, and none but an engine step changes
its round state. -/
def Obligations.CommandInFlightKeepsItsSnapshot : Prop :=
  ∀ s t : State, s.busy = true → t.busy = true → step s = .next t →
    t.sk1 = s.sk1 ∧ t.sk2 = s.sk2 ∧ t.dir = s.dir ∧ t.result = s.result ∧
    ((∃ ht es, s.events = .access ht :: es) → t.l = s.l ∧ t.r = s.r ∧ t.ctr = s.ctr)

/-! ### The cipher -/

/-- R114: ROUND on the swapped output with the same subkey gives the swapped input. -/
def Obligations.RoundIsUndoneOnSwappedHalves : Prop :=
  ∀ (l r k : Half) (l' r' : Half), feistelRound (l, r) k = (l', r') → feistelRound (r', l') k = (r, l)

/-- R109 with the S-box of R104, R105: F is the two nibbles of h xor k, each plus 6 modulo 16, high then low. So F depends only
on h xor k, is symmetric, is 0x66 on equal operands, is 0x00 exactly where h xor k = 0xAA, and is a bijection in each operand. -/
def Obligations.RoundFunctionProperties : Prop :=
  (∀ h k : Half, roundF h k = ((h ^^^ k).extractLsb' 4 4 + 6#4) ++ ((h ^^^ k).extractLsb' 0 4 + 6#4)) ∧
  (∀ h k : Half, roundF h k = roundF k h ∧ roundF h h = 0x66#8 ∧ (roundF h k = 0x00#8 ↔ h ^^^ k = 0xAA#8)) ∧
  (∀ h k h' k' : Half, h ^^^ k = h' ^^^ k' → roundF h k = roundF h' k') ∧
  (∀ k : Half, Function.Bijective (fun h => roundF h k)) ∧ (∀ h : Half, Function.Bijective (fun k => roundF h k))

/-- R133: the round-trip law, both ways, for every Block and Key. -/
def Obligations.RoundTripLaw : Prop :=
  ∀ p k c : Block, dec (enc p k) k = p ∧ enc (dec c k) k = c

/-- R134, its first sentence: for every Key, ENC and DEC are permutations of the Blocks and inverse to each other. -/
def Obligations.EncAndDecArePermutations : Prop :=
  ∀ k : Block, Function.Bijective (fun p => enc p k) ∧ Function.Bijective (fun c => dec c k) ∧
    Function.LeftInverse (fun c => dec c k) (fun p => enc p k) ∧ Function.RightInverse (fun c => dec c k) (fun p => enc p k)

/-- R134, of the literal reading that spec/90_conflicts.md C1 and C2 reject: where K1 = K2 it gives DEC's result with the two
halves exchanged, so the two readings agree exactly where the halves of DEC's result are equal. -/
def Obligations.EqualSubkeysHideTheLiteralReading : Prop :=
  ∀ c k : Block, k.extractLsb' 8 8 = k.extractLsb' 0 8 →
    literalDec c k = (dec c k).extractLsb' 0 8 ++ (dec c k).extractLsb' 8 8 ∧
    (literalDec c k = dec c k ↔ (dec c k).extractLsb' 8 8 = (dec c k).extractLsb' 0 8)

/-- R144: a valid command accepted with operands P and K, and not interrupted by reset, completes after exactly four engine
steps with ENC(P, K) or DEC(P, K), whatever legal host accesses come between. -/
def Obligations.CommandCompletesAfterFourEngineSteps : Prop :=
  ∀ (d : Direction) (rsvd : BitVec 30) (s : State) (pre : List Event),
    s.busy = false → s.Live → pre.all Event.undisturbing = true →
    (engineTurns pre ≤ 3 →
      ∃ t, deliver (.access (encode (commandOf d rsvd)) :: pre) s = .next t ∧ t.busy = true ∧ t.done = false ∧
        t.result = s.result) ∧
    (engineTurns pre = 3 →
      ∃ t, deliver (.access (encode (commandOf d rsvd)) :: (pre ++ [.engineTurn])) s = .next t ∧
        t.result = transform d s.dataIn s.key ∧ t.busy = false ∧ t.done = true ∧ t.err = .none)

/-- R145: the round states of an ENCRYPT command are the source's (L_i, R_i), whatever legal host accesses come between. -/
def Obligations.EncryptRoundStates : Prop :=
  (∀ (p k : Block) (i : Nat),
    (encState p k (i + 1)).1 = (encState p k i).2 ∧
    (encState p k (i + 1)).2 = (encState p k i).1 ^^^
      roundF (encState p k i).2 (if (i + 1) % 2 = 1 then k.extractLsb' 8 8 else k.extractLsb' 0 8)) ∧
  (∀ (rsvd : BitVec 30) (s : State) (pre : List Event) (i : Nat),
    s.busy = false → s.Live → pre.all Event.undisturbing = true → engineTurns pre = i → i ≤ 3 →
    ∃ t, deliver (.access (encode (.encrypt rsvd)) :: (pre ++ [.engineTurn])) s = .next t ∧
      t.ctr.toNat = i + 1 ∧ (t.l, t.r) = encState s.dataIn s.key (i + 1))

/-- R146: after the engine step that sets CTR = j, the round state of a DECRYPT command of ENC(P, K) is (R_{4-j}, L_{4-j}) of
the encryption of P, whatever legal host accesses come between. -/
def Obligations.DecryptRoundStates : Prop :=
  ∀ (p : Block) (rsvd : BitVec 30) (s : State) (pre : List Event) (j : Nat),
    s.busy = false → s.Live → s.dataIn = enc p s.key →
    pre.all Event.undisturbing = true → engineTurns pre + 1 = j → j ≤ 4 →
    ∃ t, deliver (.access (encode (.decrypt rsvd)) :: (pre ++ [.engineTurn])) s = .next t ∧
      t.ctr.toNat = j ∧ (t.l, t.r) = ((encState p s.key (4 - j)).2, (encState p s.key (4 - j)).1)

/-- R63: with no further event, a command in flight completes within the rounds it still has. That the engine moves where
nothing is pending is the model's reading of weak fairness (notes/assumptions/2.md). -/
def Obligations.CommandFinishesWithinItsRemainingRounds : Prop :=
  ∀ s : State, s.Inv → s.faultMark = none → s.busy = true → s.events = [] →
    ∃ t, Sys2Proof.core.run (4 - s.ctr.toNat) s = .next t ∧ t.busy = false ∧ t.done = true

/-- R38: the round state, the subkeys, the direction and the counter never reach the host before a command loads them. Two
states the host cannot tell apart step alike, and to states the host cannot tell apart. -/
def Obligations.StaleRoundStateIsNotObservable : Prop :=
  ∀ s t : State, HostEquivalent s t →
    (∀ s', step s = .next s' → ∃ t', step t = .next t' ∧ HostEquivalent s' t') ∧
    (∀ f, step s = .fault f → step t = .fault f) ∧
    (∀ f, step s = .refused f → step t = .refused f)

/-! ### The host's side -/

/-- R50, R51, R80: an access reaches the window exactly at the window's 32 addresses, and its descriptor holds its direction,
its size, its offset (aligned as its address) and, for a write, its data, byte lane by byte lane (R57). -/
def Obligations.BusAccessBecomesItsDescriptor : Prop :=
  ∀ (base : Nat) (a : BusAccess), Config.BaseAligned base →
    (base ≤ a.addr ∧ a.addr < base + 32 →
      ∃ ht, descriptorOfBus base a = some ht ∧ eventsOfBus base a = [.access ht] ∧
        ht.getLsbD 39 = a.write ∧
        ht.toNat / 2 ^ 37 % 4 = (if a.bytes = 1 then 0 else if a.bytes = 2 then 1 else if a.bytes = 4 then 2 else 3) ∧
        ht.toNat / 2 ^ 32 % 32 = a.addr - base ∧
        ht.toNat / 2 ^ 32 % 4 = a.addr % 4 ∧
        ht.toNat % 2 ^ 32 = (if a.write then a.wdata.toNat else 0) ∧
        (a.write = true → ∀ n < 4, byteOfDescriptor ht n = byteLane a.wdata n)) ∧
    (¬ (base ≤ a.addr ∧ a.addr < base + 32) → descriptorOfBus base a = none ∧ eventsOfBus base a = [])

/-- R150: PARSE16 succeeds exactly on 16-character binary strings, string position p is bit 15-p, and FORMAT16 is its
inverse. A string is its list of characters (notes/assumptions/9.md). -/
def Obligations.ParseAndFormatAreInverse : Prop :=
  (∀ s : List Char, (∃ v, parse16 s = some v) ↔ (s.length = 16 ∧ ∀ c ∈ s, c = '0' ∨ c = '1')) ∧
  (∀ (s : List Char) (v : Block), parse16 s = some v →
    (∀ p < 16, (s[p]? = some '1' ↔ v.getLsbD (15 - p) = true)) ∧ format16 v = s) ∧
  (∀ v : Block, parse16 (format16 v) = some v ∧ (format16 v).length = 16 ∧
    ∀ p < 16, ((format16 v)[p]? = some '1' ↔ v.getLsbD (15 - p) = true))

/-- R151, R153: a Transform that fails makes no FTE access, and reports the first of: block FormatError, key FormatError,
InvalidModeError, as ADAPTER_PARITY says. That no diagnostic is emitted with a typed error is the model's choice
(notes/assumptions/9.md). -/
def Obligations.FailingTransformMakesNoAccess : Prop :=
  ∀ (parity : Bool) (sched : RunSchedule) (block key mode : List Char) (s : State),
    (parse16 block = none ∨ parse16 key = none →
      adapterTransform parity sched block key mode s =
        some (if parity then ⟨.text (List.replicate 16 '0'), true⟩ else ⟨.typedError .format, false⟩, s)) ∧
    (∀ b k, parse16 block = some b → parse16 key = some k → mode ≠ encryptMode → mode ≠ decryptMode →
      adapterTransform parity sched block key mode s =
        some (if parity then ⟨.text (List.replicate 16 '0'), true⟩ else ⟨.typedError .invalidMode, false⟩, s))

/-- R154, over the machine: on an idle FTE used by nobody else, whatever the engine's schedule, a Transform of valid strings
that ends answers FORMAT16 of ENC or DEC; and it ends on every schedule that gives the engine its four turns before the last
STATUS read (R90: WAIT ends on every weakly fair schedule). That a WAIT runs over a finite list of STATUS reads and that a
string is its list of characters are the model's choices (notes/assumptions/9.md). -/
def Obligations.TransformContract : Prop :=
  ∀ (parity : Bool) (sched : RunSchedule) (block key : List Char) (b k : Block) (d : Direction) (s : State),
    s.busy = false → s.Live → parse16 block = some b → parse16 key = some k →
    (∀ a t, adapterTransform parity sched block key (if d = .encrypt then encryptMode else decryptMode) s = some (a, t) →
      a.output = .text (format16 (transform d b k))) ∧
    (4 ≤ sched.polls.sum →
      ∃ a t, adapterTransform parity sched block key (if d = .encrypt then encryptMode else decryptMode) s = some (a, t) ∧
        t.busy = false)

/-- R236 and R240: the recommended order of use gives the transform's result from every state that meets the invariant, a
command still in flight included, where no other host and no reset intervene: whatever the engine's schedule, if it ends it
ends with ENC or DEC of the operands; and it ends on every schedule that gives the engine four turns in each wait. With an
invalid mode, if it ends it ends with the code INVALID_MODE; and it ends on every schedule that gives the engine four turns in
the first wait and has a STATUS read in the second. That each wait runs over a finite list of STATUS reads is the model's
choice (notes/assumptions/9.md). -/
def Obligations.RecommendedUseGivesTheTransform : Prop :=
  ∀ (idlePolls : List Nat) (sched : RunSchedule) (b k : Block) (s : State), s.Inv → s.faultMark = none →
    (∀ d : Direction,
      (∀ a t, recommendedUse idlePolls sched (commandWord d) b k s = some (a, t) →
        a = .value ((transform d b k).zeroExtend 32)) ∧
      (4 ≤ idlePolls.sum → 4 ≤ sched.polls.sum →
        ∃ a t, recommendedUse idlePolls sched (commandWord d) b k s = some (a, t))) ∧
    (∀ m : Word, m.extractLsb' 0 2 = 0b00#2 ∨ m.extractLsb' 0 2 = 0b11#2 →
      (∀ a t, recommendedUse idlePolls sched m b k s = some (a, t) → a = .error 0b10#2) ∧
      (4 ≤ idlePolls.sum → sched.polls ≠ [] → ∃ a t, recommendedUse idlePolls sched m b k s = some (a, t)))

/-- R245, for every LATENCY: after a CMD write accepted in cycle t, BUSY reads 1 in cycles t+1 to t+LATENCY, and from cycle
t+LATENCY+1 BUSY reads 0, DONE reads 1 and RESULT holds the result, whatever legal accesses the host makes (from cycle
t+LATENCY+1 on: none that is a CMD write). With the reference LATENCY = 4 the engine performs one round per cycle in cycles t+1
to t+4. How a cycle is made of events, and the free placement of the rounds for another LATENCY, are the model's
(notes/assumptions/10.md). -/
def Obligations.ReferenceTiming : Prop :=
  ∀ (latency : Nat) (early : List Nat) (d : Direction) (rsvd : BitVec 30) (c : ClockedState)
    (later more : List (Option Descriptor)),
    c.fte.busy = false → c.fte.Live → (∀ ht, some ht ∈ later → raisesBusError (decodeDescriptor ht) = false) →
    (∀ ht, some ht ∈ more →
      raisesBusError (decodeDescriptor ht) = false ∧ isCmdWrite (decodeDescriptor ht) = false) →
    (later.length < latency →
      ∃ t, clockRun latency early (accessCycles (some (encode (commandOf d rsvd)) :: later)) c = some t ∧
        t.fte.busy = true) ∧
    (later.length = latency →
      ∃ t, clockRun latency early (accessCycles (some (encode (commandOf d rsvd)) :: (later ++ more))) c = some t ∧
        t.fte.busy = false ∧ t.fte.done = true ∧ t.fte.result = transform d c.fte.dataIn c.fte.key) ∧
    (latency = 4 → later.length ≤ 4 →
      ∃ t, clockRun latency early (accessCycles (some (encode (commandOf d rsvd)) :: later)) c = some t ∧
        t.fte.ctr.toNat = later.length ∧ (t.fte.l, t.fte.r) = roundState d c.fte.dataIn c.fte.key later.length)

/-- R246, for every LATENCY: an invalid-mode command accepted in cycle t completes in that cycle, so STATUS reads 0xA from
cycle t+1, and BUSY is never 1; a dropped CMD write leaves a cycle's rounds as they are without it. How a cycle is made of events
is the model's (notes/assumptions/10.md). -/
def Obligations.InvalidAndDroppedWritesTakeNoEngineCycle : Prop :=
  ∀ (latency : Nat) (early : List Nat) (c : ClockedState), c.fte.Live →
    (∀ rsvd : BitVec 30, c.fte.busy = false →
      (∃ t, clockRun latency early (accessCycles [some (encode (.invalidMode00 rsvd))]) c = some t ∧
        statusWord t.fte = 0x0000000A#32) ∧
      (∃ t, clockRun latency early (accessCycles [some (encode (.invalidMode11 rsvd))]) c = some t ∧
        statusWord t.fte = 0x0000000A#32)) ∧
    (∀ ht, isCmdWrite (decodeDescriptor ht) = true → c.fte.busy = true → c.fte.ctr.toNat ≤ 3 →
      ∃ t u, clockCycle latency early ⟨false, some ht⟩ c = some t ∧ clockCycle latency early ⟨false, none⟩ c = some u ∧
        t = { u with fte := { u.fte with resp := .okay } })
end

