-- ==== Sys2Proof/Laws/State.lean ====
section
/-!
SUPPORT. What each named update of State does to each field: one lemma a field, true by `rfl`, so that no later proof
unfolds a record update.
-/

namespace Sys2Proof.Machine

/-! ### State.respond -/

@[simp] theorem State.respond_dataIn (s : State) (a : Response) : (s.respond a).dataIn = s.dataIn := rfl
@[simp] theorem State.respond_key (s : State) (a : Response) : (s.respond a).key = s.key := rfl
@[simp] theorem State.respond_result (s : State) (a : Response) : (s.respond a).result = s.result := rfl
@[simp] theorem State.respond_busy (s : State) (a : Response) : (s.respond a).busy = s.busy := rfl
@[simp] theorem State.respond_done (s : State) (a : Response) : (s.respond a).done = s.done := rfl
@[simp] theorem State.respond_err (s : State) (a : Response) : (s.respond a).err = s.err := rfl
@[simp] theorem State.respond_l (s : State) (a : Response) : (s.respond a).l = s.l := rfl
@[simp] theorem State.respond_r (s : State) (a : Response) : (s.respond a).r = s.r := rfl
@[simp] theorem State.respond_sk1 (s : State) (a : Response) : (s.respond a).sk1 = s.sk1 := rfl
@[simp] theorem State.respond_sk2 (s : State) (a : Response) : (s.respond a).sk2 = s.sk2 := rfl
@[simp] theorem State.respond_dir (s : State) (a : Response) : (s.respond a).dir = s.dir := rfl
@[simp] theorem State.respond_ctr (s : State) (a : Response) : (s.respond a).ctr = s.ctr := rfl
@[simp] theorem State.respond_faultMark (s : State) (a : Response) : (s.respond a).faultMark = s.faultMark := rfl
@[simp] theorem State.respond_resp (s : State) (a : Response) : (s.respond a).resp = a := rfl
@[simp] theorem State.respond_events (s : State) (a : Response) : (s.respond a).events = s.events := rfl

/-! ### State.setDataIn -/

@[simp] theorem State.setDataIn_dataIn (s : State) (v : Block) : (s.setDataIn v).dataIn = v := rfl
@[simp] theorem State.setDataIn_key (s : State) (v : Block) : (s.setDataIn v).key = s.key := rfl
@[simp] theorem State.setDataIn_result (s : State) (v : Block) : (s.setDataIn v).result = s.result := rfl
@[simp] theorem State.setDataIn_busy (s : State) (v : Block) : (s.setDataIn v).busy = s.busy := rfl
@[simp] theorem State.setDataIn_done (s : State) (v : Block) : (s.setDataIn v).done = s.done := rfl
@[simp] theorem State.setDataIn_err (s : State) (v : Block) : (s.setDataIn v).err = s.err := rfl
@[simp] theorem State.setDataIn_l (s : State) (v : Block) : (s.setDataIn v).l = s.l := rfl
@[simp] theorem State.setDataIn_r (s : State) (v : Block) : (s.setDataIn v).r = s.r := rfl
@[simp] theorem State.setDataIn_sk1 (s : State) (v : Block) : (s.setDataIn v).sk1 = s.sk1 := rfl
@[simp] theorem State.setDataIn_sk2 (s : State) (v : Block) : (s.setDataIn v).sk2 = s.sk2 := rfl
@[simp] theorem State.setDataIn_dir (s : State) (v : Block) : (s.setDataIn v).dir = s.dir := rfl
@[simp] theorem State.setDataIn_ctr (s : State) (v : Block) : (s.setDataIn v).ctr = s.ctr := rfl
@[simp] theorem State.setDataIn_faultMark (s : State) (v : Block) : (s.setDataIn v).faultMark = s.faultMark := rfl
@[simp] theorem State.setDataIn_resp (s : State) (v : Block) : (s.setDataIn v).resp = s.resp := rfl
@[simp] theorem State.setDataIn_events (s : State) (v : Block) : (s.setDataIn v).events = s.events := rfl

/-! ### State.setKey -/

@[simp] theorem State.setKey_dataIn (s : State) (v : Block) : (s.setKey v).dataIn = s.dataIn := rfl
@[simp] theorem State.setKey_key (s : State) (v : Block) : (s.setKey v).key = v := rfl
@[simp] theorem State.setKey_result (s : State) (v : Block) : (s.setKey v).result = s.result := rfl
@[simp] theorem State.setKey_busy (s : State) (v : Block) : (s.setKey v).busy = s.busy := rfl
@[simp] theorem State.setKey_done (s : State) (v : Block) : (s.setKey v).done = s.done := rfl
@[simp] theorem State.setKey_err (s : State) (v : Block) : (s.setKey v).err = s.err := rfl
@[simp] theorem State.setKey_l (s : State) (v : Block) : (s.setKey v).l = s.l := rfl
@[simp] theorem State.setKey_r (s : State) (v : Block) : (s.setKey v).r = s.r := rfl
@[simp] theorem State.setKey_sk1 (s : State) (v : Block) : (s.setKey v).sk1 = s.sk1 := rfl
@[simp] theorem State.setKey_sk2 (s : State) (v : Block) : (s.setKey v).sk2 = s.sk2 := rfl
@[simp] theorem State.setKey_dir (s : State) (v : Block) : (s.setKey v).dir = s.dir := rfl
@[simp] theorem State.setKey_ctr (s : State) (v : Block) : (s.setKey v).ctr = s.ctr := rfl
@[simp] theorem State.setKey_faultMark (s : State) (v : Block) : (s.setKey v).faultMark = s.faultMark := rfl
@[simp] theorem State.setKey_resp (s : State) (v : Block) : (s.setKey v).resp = s.resp := rfl
@[simp] theorem State.setKey_events (s : State) (v : Block) : (s.setKey v).events = s.events := rfl

/-! ### State.setResult -/

@[simp] theorem State.setResult_dataIn (s : State) (v : Block) : (s.setResult v).dataIn = s.dataIn := rfl
@[simp] theorem State.setResult_key (s : State) (v : Block) : (s.setResult v).key = s.key := rfl
@[simp] theorem State.setResult_result (s : State) (v : Block) : (s.setResult v).result = v := rfl
@[simp] theorem State.setResult_busy (s : State) (v : Block) : (s.setResult v).busy = s.busy := rfl
@[simp] theorem State.setResult_done (s : State) (v : Block) : (s.setResult v).done = s.done := rfl
@[simp] theorem State.setResult_err (s : State) (v : Block) : (s.setResult v).err = s.err := rfl
@[simp] theorem State.setResult_l (s : State) (v : Block) : (s.setResult v).l = s.l := rfl
@[simp] theorem State.setResult_r (s : State) (v : Block) : (s.setResult v).r = s.r := rfl
@[simp] theorem State.setResult_sk1 (s : State) (v : Block) : (s.setResult v).sk1 = s.sk1 := rfl
@[simp] theorem State.setResult_sk2 (s : State) (v : Block) : (s.setResult v).sk2 = s.sk2 := rfl
@[simp] theorem State.setResult_dir (s : State) (v : Block) : (s.setResult v).dir = s.dir := rfl
@[simp] theorem State.setResult_ctr (s : State) (v : Block) : (s.setResult v).ctr = s.ctr := rfl
@[simp] theorem State.setResult_faultMark (s : State) (v : Block) : (s.setResult v).faultMark = s.faultMark := rfl
@[simp] theorem State.setResult_resp (s : State) (v : Block) : (s.setResult v).resp = s.resp := rfl
@[simp] theorem State.setResult_events (s : State) (v : Block) : (s.setResult v).events = s.events := rfl

/-! ### State.setRound -/

@[simp] theorem State.setRound_dataIn (s : State) (lr : Half × Half) (c : BitVec 3) : (s.setRound lr c).dataIn = s.dataIn := rfl
@[simp] theorem State.setRound_key (s : State) (lr : Half × Half) (c : BitVec 3) : (s.setRound lr c).key = s.key := rfl
@[simp] theorem State.setRound_result (s : State) (lr : Half × Half) (c : BitVec 3) : (s.setRound lr c).result = s.result := rfl
@[simp] theorem State.setRound_busy (s : State) (lr : Half × Half) (c : BitVec 3) : (s.setRound lr c).busy = s.busy := rfl
@[simp] theorem State.setRound_done (s : State) (lr : Half × Half) (c : BitVec 3) : (s.setRound lr c).done = s.done := rfl
@[simp] theorem State.setRound_err (s : State) (lr : Half × Half) (c : BitVec 3) : (s.setRound lr c).err = s.err := rfl
@[simp] theorem State.setRound_l (s : State) (lr : Half × Half) (c : BitVec 3) : (s.setRound lr c).l = lr.1 := rfl
@[simp] theorem State.setRound_r (s : State) (lr : Half × Half) (c : BitVec 3) : (s.setRound lr c).r = lr.2 := rfl
@[simp] theorem State.setRound_sk1 (s : State) (lr : Half × Half) (c : BitVec 3) : (s.setRound lr c).sk1 = s.sk1 := rfl
@[simp] theorem State.setRound_sk2 (s : State) (lr : Half × Half) (c : BitVec 3) : (s.setRound lr c).sk2 = s.sk2 := rfl
@[simp] theorem State.setRound_dir (s : State) (lr : Half × Half) (c : BitVec 3) : (s.setRound lr c).dir = s.dir := rfl
@[simp] theorem State.setRound_ctr (s : State) (lr : Half × Half) (c : BitVec 3) : (s.setRound lr c).ctr = c := rfl
@[simp] theorem State.setRound_faultMark (s : State) (lr : Half × Half) (c : BitVec 3) : (s.setRound lr c).faultMark = s.faultMark := rfl
@[simp] theorem State.setRound_resp (s : State) (lr : Half × Half) (c : BitVec 3) : (s.setRound lr c).resp = s.resp := rfl
@[simp] theorem State.setRound_events (s : State) (lr : Half × Half) (c : BitVec 3) : (s.setRound lr c).events = s.events := rfl

/-! ### State.setSnapshot -/

@[simp] theorem State.setSnapshot_dataIn (s : State) (k1 k2 : Half) (d : Direction) : (s.setSnapshot k1 k2 d).dataIn = s.dataIn := rfl
@[simp] theorem State.setSnapshot_key (s : State) (k1 k2 : Half) (d : Direction) : (s.setSnapshot k1 k2 d).key = s.key := rfl
@[simp] theorem State.setSnapshot_result (s : State) (k1 k2 : Half) (d : Direction) : (s.setSnapshot k1 k2 d).result = s.result := rfl
@[simp] theorem State.setSnapshot_busy (s : State) (k1 k2 : Half) (d : Direction) : (s.setSnapshot k1 k2 d).busy = s.busy := rfl
@[simp] theorem State.setSnapshot_done (s : State) (k1 k2 : Half) (d : Direction) : (s.setSnapshot k1 k2 d).done = s.done := rfl
@[simp] theorem State.setSnapshot_err (s : State) (k1 k2 : Half) (d : Direction) : (s.setSnapshot k1 k2 d).err = s.err := rfl
@[simp] theorem State.setSnapshot_l (s : State) (k1 k2 : Half) (d : Direction) : (s.setSnapshot k1 k2 d).l = s.l := rfl
@[simp] theorem State.setSnapshot_r (s : State) (k1 k2 : Half) (d : Direction) : (s.setSnapshot k1 k2 d).r = s.r := rfl
@[simp] theorem State.setSnapshot_sk1 (s : State) (k1 k2 : Half) (d : Direction) : (s.setSnapshot k1 k2 d).sk1 = k1 := rfl
@[simp] theorem State.setSnapshot_sk2 (s : State) (k1 k2 : Half) (d : Direction) : (s.setSnapshot k1 k2 d).sk2 = k2 := rfl
@[simp] theorem State.setSnapshot_dir (s : State) (k1 k2 : Half) (d : Direction) : (s.setSnapshot k1 k2 d).dir = d := rfl
@[simp] theorem State.setSnapshot_ctr (s : State) (k1 k2 : Half) (d : Direction) : (s.setSnapshot k1 k2 d).ctr = s.ctr := rfl
@[simp] theorem State.setSnapshot_faultMark (s : State) (k1 k2 : Half) (d : Direction) : (s.setSnapshot k1 k2 d).faultMark = s.faultMark := rfl
@[simp] theorem State.setSnapshot_resp (s : State) (k1 k2 : Half) (d : Direction) : (s.setSnapshot k1 k2 d).resp = s.resp := rfl
@[simp] theorem State.setSnapshot_events (s : State) (k1 k2 : Half) (d : Direction) : (s.setSnapshot k1 k2 d).events = s.events := rfl

/-! ### State.mark -/

@[simp] theorem State.mark_dataIn (s : State) (e : BusError) : (s.mark e).dataIn = s.dataIn := rfl
@[simp] theorem State.mark_key (s : State) (e : BusError) : (s.mark e).key = s.key := rfl
@[simp] theorem State.mark_result (s : State) (e : BusError) : (s.mark e).result = s.result := rfl
@[simp] theorem State.mark_busy (s : State) (e : BusError) : (s.mark e).busy = s.busy := rfl
@[simp] theorem State.mark_done (s : State) (e : BusError) : (s.mark e).done = s.done := rfl
@[simp] theorem State.mark_err (s : State) (e : BusError) : (s.mark e).err = s.err := rfl
@[simp] theorem State.mark_l (s : State) (e : BusError) : (s.mark e).l = s.l := rfl
@[simp] theorem State.mark_r (s : State) (e : BusError) : (s.mark e).r = s.r := rfl
@[simp] theorem State.mark_sk1 (s : State) (e : BusError) : (s.mark e).sk1 = s.sk1 := rfl
@[simp] theorem State.mark_sk2 (s : State) (e : BusError) : (s.mark e).sk2 = s.sk2 := rfl
@[simp] theorem State.mark_dir (s : State) (e : BusError) : (s.mark e).dir = s.dir := rfl
@[simp] theorem State.mark_ctr (s : State) (e : BusError) : (s.mark e).ctr = s.ctr := rfl
@[simp] theorem State.mark_faultMark (s : State) (e : BusError) : (s.mark e).faultMark = some (s.faultMark.getD e) := rfl
@[simp] theorem State.mark_resp (s : State) (e : BusError) : (s.mark e).resp = s.resp := rfl
@[simp] theorem State.mark_events (s : State) (e : BusError) : (s.mark e).events = s.events := rfl

/-! ### State.withEvents -/

@[simp] theorem State.withEvents_dataIn (s : State) (es : List Event) : (s.withEvents es).dataIn = s.dataIn := rfl
@[simp] theorem State.withEvents_key (s : State) (es : List Event) : (s.withEvents es).key = s.key := rfl
@[simp] theorem State.withEvents_result (s : State) (es : List Event) : (s.withEvents es).result = s.result := rfl
@[simp] theorem State.withEvents_busy (s : State) (es : List Event) : (s.withEvents es).busy = s.busy := rfl
@[simp] theorem State.withEvents_done (s : State) (es : List Event) : (s.withEvents es).done = s.done := rfl
@[simp] theorem State.withEvents_err (s : State) (es : List Event) : (s.withEvents es).err = s.err := rfl
@[simp] theorem State.withEvents_l (s : State) (es : List Event) : (s.withEvents es).l = s.l := rfl
@[simp] theorem State.withEvents_r (s : State) (es : List Event) : (s.withEvents es).r = s.r := rfl
@[simp] theorem State.withEvents_sk1 (s : State) (es : List Event) : (s.withEvents es).sk1 = s.sk1 := rfl
@[simp] theorem State.withEvents_sk2 (s : State) (es : List Event) : (s.withEvents es).sk2 = s.sk2 := rfl
@[simp] theorem State.withEvents_dir (s : State) (es : List Event) : (s.withEvents es).dir = s.dir := rfl
@[simp] theorem State.withEvents_ctr (s : State) (es : List Event) : (s.withEvents es).ctr = s.ctr := rfl
@[simp] theorem State.withEvents_faultMark (s : State) (es : List Event) : (s.withEvents es).faultMark = s.faultMark := rfl
@[simp] theorem State.withEvents_resp (s : State) (es : List Event) : (s.withEvents es).resp = s.resp := rfl
@[simp] theorem State.withEvents_events (s : State) (es : List Event) : (s.withEvents es).events = es := rfl

/-! ### State.clearOutcome -/

@[simp] theorem State.clearOutcome_dataIn (s : State) : s.clearOutcome.dataIn = s.dataIn := rfl
@[simp] theorem State.clearOutcome_key (s : State) : s.clearOutcome.key = s.key := rfl
@[simp] theorem State.clearOutcome_result (s : State) : s.clearOutcome.result = s.result := rfl
@[simp] theorem State.clearOutcome_busy (s : State) : s.clearOutcome.busy = s.busy := rfl
@[simp] theorem State.clearOutcome_done (s : State) : s.clearOutcome.done = false := rfl
@[simp] theorem State.clearOutcome_err (s : State) : s.clearOutcome.err = .none := rfl
@[simp] theorem State.clearOutcome_l (s : State) : s.clearOutcome.l = s.l := rfl
@[simp] theorem State.clearOutcome_r (s : State) : s.clearOutcome.r = s.r := rfl
@[simp] theorem State.clearOutcome_sk1 (s : State) : s.clearOutcome.sk1 = s.sk1 := rfl
@[simp] theorem State.clearOutcome_sk2 (s : State) : s.clearOutcome.sk2 = s.sk2 := rfl
@[simp] theorem State.clearOutcome_dir (s : State) : s.clearOutcome.dir = s.dir := rfl
@[simp] theorem State.clearOutcome_ctr (s : State) : s.clearOutcome.ctr = s.ctr := rfl
@[simp] theorem State.clearOutcome_faultMark (s : State) : s.clearOutcome.faultMark = s.faultMark := rfl
@[simp] theorem State.clearOutcome_resp (s : State) : s.clearOutcome.resp = s.resp := rfl
@[simp] theorem State.clearOutcome_events (s : State) : s.clearOutcome.events = s.events := rfl

/-! ### State.markBusy -/

@[simp] theorem State.markBusy_dataIn (s : State) : s.markBusy.dataIn = s.dataIn := rfl
@[simp] theorem State.markBusy_key (s : State) : s.markBusy.key = s.key := rfl
@[simp] theorem State.markBusy_result (s : State) : s.markBusy.result = s.result := rfl
@[simp] theorem State.markBusy_busy (s : State) : s.markBusy.busy = true := rfl
@[simp] theorem State.markBusy_done (s : State) : s.markBusy.done = s.done := rfl
@[simp] theorem State.markBusy_err (s : State) : s.markBusy.err = s.err := rfl
@[simp] theorem State.markBusy_l (s : State) : s.markBusy.l = s.l := rfl
@[simp] theorem State.markBusy_r (s : State) : s.markBusy.r = s.r := rfl
@[simp] theorem State.markBusy_sk1 (s : State) : s.markBusy.sk1 = s.sk1 := rfl
@[simp] theorem State.markBusy_sk2 (s : State) : s.markBusy.sk2 = s.sk2 := rfl
@[simp] theorem State.markBusy_dir (s : State) : s.markBusy.dir = s.dir := rfl
@[simp] theorem State.markBusy_ctr (s : State) : s.markBusy.ctr = s.ctr := rfl
@[simp] theorem State.markBusy_faultMark (s : State) : s.markBusy.faultMark = s.faultMark := rfl
@[simp] theorem State.markBusy_resp (s : State) : s.markBusy.resp = s.resp := rfl
@[simp] theorem State.markBusy_events (s : State) : s.markBusy.events = s.events := rfl

/-! ### State.markCompleted -/

@[simp] theorem State.markCompleted_dataIn (s : State) : s.markCompleted.dataIn = s.dataIn := rfl
@[simp] theorem State.markCompleted_key (s : State) : s.markCompleted.key = s.key := rfl
@[simp] theorem State.markCompleted_result (s : State) : s.markCompleted.result = s.result := rfl
@[simp] theorem State.markCompleted_busy (s : State) : s.markCompleted.busy = false := rfl
@[simp] theorem State.markCompleted_done (s : State) : s.markCompleted.done = true := rfl
@[simp] theorem State.markCompleted_err (s : State) : s.markCompleted.err = s.err := rfl
@[simp] theorem State.markCompleted_l (s : State) : s.markCompleted.l = s.l := rfl
@[simp] theorem State.markCompleted_r (s : State) : s.markCompleted.r = s.r := rfl
@[simp] theorem State.markCompleted_sk1 (s : State) : s.markCompleted.sk1 = s.sk1 := rfl
@[simp] theorem State.markCompleted_sk2 (s : State) : s.markCompleted.sk2 = s.sk2 := rfl
@[simp] theorem State.markCompleted_dir (s : State) : s.markCompleted.dir = s.dir := rfl
@[simp] theorem State.markCompleted_ctr (s : State) : s.markCompleted.ctr = s.ctr := rfl
@[simp] theorem State.markCompleted_faultMark (s : State) : s.markCompleted.faultMark = s.faultMark := rfl
@[simp] theorem State.markCompleted_resp (s : State) : s.markCompleted.resp = s.resp := rfl
@[simp] theorem State.markCompleted_events (s : State) : s.markCompleted.events = s.events := rfl

/-! ### State.markInvalidMode -/

@[simp] theorem State.markInvalidMode_dataIn (s : State) : s.markInvalidMode.dataIn = s.dataIn := rfl
@[simp] theorem State.markInvalidMode_key (s : State) : s.markInvalidMode.key = s.key := rfl
@[simp] theorem State.markInvalidMode_result (s : State) : s.markInvalidMode.result = s.result := rfl
@[simp] theorem State.markInvalidMode_busy (s : State) : s.markInvalidMode.busy = s.busy := rfl
@[simp] theorem State.markInvalidMode_done (s : State) : s.markInvalidMode.done = true := rfl
@[simp] theorem State.markInvalidMode_err (s : State) : s.markInvalidMode.err = .invalidMode := rfl
@[simp] theorem State.markInvalidMode_l (s : State) : s.markInvalidMode.l = s.l := rfl
@[simp] theorem State.markInvalidMode_r (s : State) : s.markInvalidMode.r = s.r := rfl
@[simp] theorem State.markInvalidMode_sk1 (s : State) : s.markInvalidMode.sk1 = s.sk1 := rfl
@[simp] theorem State.markInvalidMode_sk2 (s : State) : s.markInvalidMode.sk2 = s.sk2 := rfl
@[simp] theorem State.markInvalidMode_dir (s : State) : s.markInvalidMode.dir = s.dir := rfl
@[simp] theorem State.markInvalidMode_ctr (s : State) : s.markInvalidMode.ctr = s.ctr := rfl
@[simp] theorem State.markInvalidMode_faultMark (s : State) : s.markInvalidMode.faultMark = s.faultMark := rfl
@[simp] theorem State.markInvalidMode_resp (s : State) : s.markInvalidMode.resp = s.resp := rfl
@[simp] theorem State.markInvalidMode_events (s : State) : s.markInvalidMode.events = s.events := rfl

/-! ### acceptValid -/

@[simp] theorem acceptValid_dataIn (d : Direction) (s : State) : (acceptValid d s).dataIn = s.dataIn := rfl
@[simp] theorem acceptValid_key (d : Direction) (s : State) : (acceptValid d s).key = s.key := rfl
@[simp] theorem acceptValid_result (d : Direction) (s : State) : (acceptValid d s).result = s.result := rfl
@[simp] theorem acceptValid_busy (d : Direction) (s : State) : (acceptValid d s).busy = true := rfl
@[simp] theorem acceptValid_done (d : Direction) (s : State) : (acceptValid d s).done = s.done := rfl
@[simp] theorem acceptValid_err (d : Direction) (s : State) : (acceptValid d s).err = s.err := rfl
@[simp] theorem acceptValid_l (d : Direction) (s : State) : (acceptValid d s).l = (entryHalves d s.dataIn).1 := rfl
@[simp] theorem acceptValid_r (d : Direction) (s : State) : (acceptValid d s).r = (entryHalves d s.dataIn).2 := rfl
@[simp] theorem acceptValid_sk1 (d : Direction) (s : State) : (acceptValid d s).sk1 = subkey1 s.key := rfl
@[simp] theorem acceptValid_sk2 (d : Direction) (s : State) : (acceptValid d s).sk2 = subkey2 s.key := rfl
@[simp] theorem acceptValid_dir (d : Direction) (s : State) : (acceptValid d s).dir = d := rfl
@[simp] theorem acceptValid_ctr (d : Direction) (s : State) : (acceptValid d s).ctr = 0#3 := rfl
@[simp] theorem acceptValid_faultMark (d : Direction) (s : State) : (acceptValid d s).faultMark = s.faultMark := rfl
@[simp] theorem acceptValid_resp (d : Direction) (s : State) : (acceptValid d s).resp = s.resp := rfl
@[simp] theorem acceptValid_events (d : Direction) (s : State) : (acceptValid d s).events = s.events := rfl

/-! ### raiseInvalidMode -/

@[simp] theorem raiseInvalidMode_dataIn (s : State) : (raiseInvalidMode s).dataIn = s.dataIn := rfl
@[simp] theorem raiseInvalidMode_key (s : State) : (raiseInvalidMode s).key = s.key := rfl
@[simp] theorem raiseInvalidMode_result (s : State) : (raiseInvalidMode s).result = 0x0000#16 := rfl
@[simp] theorem raiseInvalidMode_busy (s : State) : (raiseInvalidMode s).busy = s.busy := rfl
@[simp] theorem raiseInvalidMode_done (s : State) : (raiseInvalidMode s).done = true := rfl
@[simp] theorem raiseInvalidMode_err (s : State) : (raiseInvalidMode s).err = .invalidMode := rfl
@[simp] theorem raiseInvalidMode_l (s : State) : (raiseInvalidMode s).l = s.l := rfl
@[simp] theorem raiseInvalidMode_r (s : State) : (raiseInvalidMode s).r = s.r := rfl
@[simp] theorem raiseInvalidMode_sk1 (s : State) : (raiseInvalidMode s).sk1 = s.sk1 := rfl
@[simp] theorem raiseInvalidMode_sk2 (s : State) : (raiseInvalidMode s).sk2 = s.sk2 := rfl
@[simp] theorem raiseInvalidMode_dir (s : State) : (raiseInvalidMode s).dir = s.dir := rfl
@[simp] theorem raiseInvalidMode_ctr (s : State) : (raiseInvalidMode s).ctr = s.ctr := rfl
@[simp] theorem raiseInvalidMode_faultMark (s : State) : (raiseInvalidMode s).faultMark = s.faultMark := rfl
@[simp] theorem raiseInvalidMode_resp (s : State) : (raiseInvalidMode s).resp = s.resp := rfl
@[simp] theorem raiseInvalidMode_events (s : State) : (raiseInvalidMode s).events = s.events := rfl

/-! ### completeCommand -/

@[simp] theorem completeCommand_dataIn (s : State) : (completeCommand s).dataIn = s.dataIn := rfl
@[simp] theorem completeCommand_key (s : State) : (completeCommand s).key = s.key := rfl
@[simp] theorem completeCommand_result (s : State) : (completeCommand s).result = exitBlock s.dir s.l s.r := rfl
@[simp] theorem completeCommand_busy (s : State) : (completeCommand s).busy = false := rfl
@[simp] theorem completeCommand_done (s : State) : (completeCommand s).done = true := rfl
@[simp] theorem completeCommand_err (s : State) : (completeCommand s).err = s.err := rfl
@[simp] theorem completeCommand_l (s : State) : (completeCommand s).l = s.l := rfl
@[simp] theorem completeCommand_r (s : State) : (completeCommand s).r = s.r := rfl
@[simp] theorem completeCommand_sk1 (s : State) : (completeCommand s).sk1 = s.sk1 := rfl
@[simp] theorem completeCommand_sk2 (s : State) : (completeCommand s).sk2 = s.sk2 := rfl
@[simp] theorem completeCommand_dir (s : State) : (completeCommand s).dir = s.dir := rfl
@[simp] theorem completeCommand_ctr (s : State) : (completeCommand s).ctr = s.ctr := rfl
@[simp] theorem completeCommand_faultMark (s : State) : (completeCommand s).faultMark = s.faultMark := rfl
@[simp] theorem completeCommand_resp (s : State) : (completeCommand s).resp = s.resp := rfl
@[simp] theorem completeCommand_events (s : State) : (completeCommand s).events = s.events := rfl

/-! ### applyRound -/

@[simp] theorem applyRound_dataIn (j : Nat) (s : State) : (applyRound j s).dataIn = s.dataIn := rfl
@[simp] theorem applyRound_key (j : Nat) (s : State) : (applyRound j s).key = s.key := rfl
@[simp] theorem applyRound_result (j : Nat) (s : State) : (applyRound j s).result = s.result := rfl
@[simp] theorem applyRound_busy (j : Nat) (s : State) : (applyRound j s).busy = s.busy := rfl
@[simp] theorem applyRound_done (j : Nat) (s : State) : (applyRound j s).done = s.done := rfl
@[simp] theorem applyRound_err (j : Nat) (s : State) : (applyRound j s).err = s.err := rfl
@[simp] theorem applyRound_l (j : Nat) (s : State) : (applyRound j s).l = s.r := rfl
@[simp] theorem applyRound_r (j : Nat) (s : State) : (applyRound j s).r = s.l ^^^ roundF s.r (ksel s.dir j s.sk1 s.sk2) := rfl
@[simp] theorem applyRound_sk1 (j : Nat) (s : State) : (applyRound j s).sk1 = s.sk1 := rfl
@[simp] theorem applyRound_sk2 (j : Nat) (s : State) : (applyRound j s).sk2 = s.sk2 := rfl
@[simp] theorem applyRound_dir (j : Nat) (s : State) : (applyRound j s).dir = s.dir := rfl
@[simp] theorem applyRound_ctr (j : Nat) (s : State) : (applyRound j s).ctr = BitVec.ofNat 3 j := rfl
@[simp] theorem applyRound_faultMark (j : Nat) (s : State) : (applyRound j s).faultMark = s.faultMark := rfl
@[simp] theorem applyRound_resp (j : Nat) (s : State) : (applyRound j s).resp = s.resp := rfl
@[simp] theorem applyRound_events (j : Nat) (s : State) : (applyRound j s).events = s.events := rfl

/-! ### resetCycle -/

@[simp] theorem resetCycle_dataIn (s : State) : (resetCycle s).dataIn = 0x0000#16 := rfl
@[simp] theorem resetCycle_key (s : State) : (resetCycle s).key = 0x0000#16 := rfl
@[simp] theorem resetCycle_result (s : State) : (resetCycle s).result = 0x0000#16 := rfl
@[simp] theorem resetCycle_busy (s : State) : (resetCycle s).busy = false := rfl
@[simp] theorem resetCycle_done (s : State) : (resetCycle s).done = false := rfl
@[simp] theorem resetCycle_err (s : State) : (resetCycle s).err = .none := rfl
@[simp] theorem resetCycle_l (s : State) : (resetCycle s).l = 0x00#8 := rfl
@[simp] theorem resetCycle_r (s : State) : (resetCycle s).r = 0x00#8 := rfl
@[simp] theorem resetCycle_sk1 (s : State) : (resetCycle s).sk1 = 0x00#8 := rfl
@[simp] theorem resetCycle_sk2 (s : State) : (resetCycle s).sk2 = 0x00#8 := rfl
@[simp] theorem resetCycle_dir (s : State) : (resetCycle s).dir = .encrypt := rfl
@[simp] theorem resetCycle_ctr (s : State) : (resetCycle s).ctr = 0#3 := rfl
@[simp] theorem resetCycle_faultMark (s : State) : (resetCycle s).faultMark = s.faultMark := rfl
@[simp] theorem resetCycle_resp (s : State) : (resetCycle s).resp = .idle := rfl
@[simp] theorem resetCycle_events (s : State) : (resetCycle s).events = s.events := rfl

end Sys2Proof.Machine
end

