-- ==== Sys2Proof/Laws/Ops.lean ====
section
/-!
SUPPORT. What each shared operation can do, said once: the lemmas that a proof about a meaning or about a step cites
instead of unfolding it.
-/

namespace Sys2Proof.Machine

/-- Two answers with a next state are equal exactly when the states are. -/
@[simp] theorem outcome_next_inj {s t : State} :
    (Host.Outcome.next s : Host.Outcome State Fault Refusal) = .next t ↔ s = t :=
  ⟨fun h => by cases h; rfl, fun h => by rw [h]⟩

theorem readReply_next {w : Word} {s t : State} (h : readReply w s = .next t) : t = s.respond (.data w) := by
  cases h; rfl

theorem writeReply_next {s t : State} (h : writeReply s = .next t) : t = s.respond .okay := by
  cases h; rfl

theorem raiseBusError_next {e : BusError} {s t : State} (h : raiseBusError e s = .next t) :
    t = (s.mark e).respond .error := by
  cases h; rfl

/-- What a CMD write can do: be dropped, or be accepted with its effect. -/
theorem cmdWrite_next {f : State → State} {s t : State} (h : cmdWrite f s = .next t) :
    (s.busy = true ∧ t = s.respond .okay) ∨ (s.busy = false ∧ t = (f s.clearOutcome).respond .okay) := by
  unfold cmdWrite at h
  split at h
  · exact .inl ⟨‹_›, writeReply_next h⟩
  · rename_i hb
    exact .inr ⟨by simpa using hb, writeReply_next h⟩

/-- A CMD write always answers with a next state. -/
theorem cmdWrite_eq (f : State → State) (s : State) :
    cmdWrite f s = .next (if s.busy then s.respond .okay else (f s.clearOutcome).respond .okay) := by
  unfold cmdWrite
  split <;> rfl

/-- What the engine's round can do: one round, and the completion with the fourth. -/
theorem engineRound_next {s t : State} (h : engineRound s = .next t) :
    (s.ctr.toNat < 3 ∧ t = applyRound (s.ctr.toNat + 1) s) ∨
      (s.ctr.toNat = 3 ∧ t = completeCommand (applyRound 4 s)) := by
  unfold engineRound at h
  split at h
  · split at h
    · rename_i h3 h4
      have h5 : s.ctr.toNat = 3 := by simpa [Config.rounds] using h4
      cases h
      exact .inr ⟨h5, by rw [h5]⟩
    · rename_i h3 h4
      cases h
      refine .inl ⟨?_, rfl⟩
      have : s.ctr.toNat + 1 ≠ 4 := h4
      omega
  · cases h

/-- What the engine's turn can do: nothing where it is not enabled, else its round. -/
theorem engineTurn_next {s t : State} (h : engineTurn s = .next t) :
    (s.busy = false ∧ t = s) ∨ (s.busy = true ∧ engineRound s = .next t) := by
  unfold engineTurn at h
  split at h
  · exact .inr ⟨‹_›, h⟩
  · rename_i hb
    cases h
    exact .inl ⟨by simpa using hb, rfl⟩

/-- A live state has no fault mark and a code in ERR that the FTE writes. -/
theorem stopReason_eq_none {s : State} :
    stopReason s = none ↔ s.faultMark = none ∧ (s.err = .none ∨ s.err = .invalidMode) := by
  unfold stopReason
  cases hm : s.faultMark <;> cases he : s.err <;> simp

/-- What one event can do where it has a next state. -/
theorem serve_next {e : Event} {s t : State} (h : serve e s = .next t) :
    (e = .reset none ∧ t = resetCycle s) ∨
    (∃ ht, e = .access ht ∧ stopReason s = none ∧ exec (decodeDescriptor ht) s = .next t) ∨
    (e = .engineTurn ∧ stopReason s = none ∧ engineTurn s = .next t) := by
  unfold serve at h
  split at h
  · cases h
    exact .inl ⟨rfl, rfl⟩
  · cases h
  · split at h
    · cases h
    · exact .inr (.inl ⟨_, rfl, ‹_›, h⟩)
  · split at h
    · cases h
    · exact .inr (.inr ⟨rfl, ‹_›, h⟩)

/-- The step takes the next event; with none pending it is the engine's turn. -/
theorem step_eq (s : State) : step s = serve (nextEvent s.events).1 (s.withEvents (nextEvent s.events).2) := rfl

theorem step_cons {s : State} {e : Event} {es : List Event} (h : s.events = e :: es) :
    step s = serve e (s.withEvents es) := by
  rw [step_eq, h]; rfl

theorem step_nil {s : State} (h : s.events = []) : step s = serve .engineTurn s := by
  have : s.withEvents [] = s := by
    cases s; cases h; rfl
  rw [step_eq, h]
  change serve .engineTurn (s.withEvents []) = _
  rw [this]

/-- Every instruction answers with a next state, and leaves the pending events alone. -/
theorem exec_events {i : Instr} {s t : State} (h : exec i s = .next t) : t.events = s.events := by
  cases i <;>
    first
      | (cases readReply_next h; rfl)
      | (cases writeReply_next h; rfl)
      | (cases raiseBusError_next h; rfl)
      | (obtain ⟨-, rfl⟩ | ⟨-, rfl⟩ := cmdWrite_next h <;> rfl)

end Sys2Proof.Machine
end

