-- ==== Sys2Proof/Laws/Run.lean ====
section
/-!
SUPPORT. Runs of the machine, event by event: what a run over a list of events is in terms of its first event, and of two
lists one after the other.
-/

namespace Sys2Proof.Machine

/-- One event leaves the events after it pending. -/
theorem serve_events {e : Event} {s t : State} (h : serve e s = .next t) : t.events = s.events := by
  obtain ⟨-, rfl⟩ | ⟨ht, -, -, hx⟩ | ⟨-, -, hx⟩ := serve_next h
  · rfl
  · exact exec_events hx
  · obtain ⟨-, rfl⟩ | ⟨-, hr⟩ := engineTurn_next hx
    · rfl
    · obtain ⟨-, rfl⟩ | ⟨-, rfl⟩ := engineRound_next hr <;> rfl

@[simp] theorem withEvents_events (s : State) : s.withEvents s.events = s := rfl

@[simp] theorem withEvents_withEvents (s : State) (es fs : List Event) :
    (s.withEvents es).withEvents fs = s.withEvents fs := rfl

@[simp] theorem deliver_nil (s : State) : deliver [] s = .next (s.withEvents []) := rfl

/-- A run of any machine goes on from its first step's next state. -/
theorem coreRun_of_next {M : Host.Core} {n : Nat} {s t : M.State} (h : M.step s = .next t) :
    M.run (n + 1) s = M.run n t := by
  simp only [Host.Core.run, h]

/-- A run of any machine that answers next answered next on its first step. -/
theorem coreRun_next {M : Host.Core} {n : Nat} {s t : M.State} (h : M.run (n + 1) s = .next t) :
    ∃ u, M.step s = .next u ∧ M.run n u = .next t := by
  simp only [Host.Core.run] at h
  split at h
  · exact ⟨_, ‹_›, h⟩
  · cases h
  · cases h

/-- A run whose first step has a next state goes on from there. -/
theorem run_succ_of_next {n : Nat} {s t : State} (h : step s = .next t) :
    Sys2Proof.core.run (n + 1) s = Sys2Proof.core.run n t :=
  coreRun_of_next (M := Sys2Proof.core) h

/-- A run that answers next answered next on its first step. -/
theorem run_succ_next {n : Nat} {s t : State} (h : Sys2Proof.core.run (n + 1) s = .next t) :
    ∃ u, step s = .next u ∧ Sys2Proof.core.run n u = .next t :=
  coreRun_next (M := Sys2Proof.core) h

/-- The step of a state whose first pending event is `e`. -/
theorem step_withEvents_cons (e : Event) (es : List Event) (s : State) :
    step (s.withEvents (e :: es)) = serve e (s.withEvents es) := step_cons rfl

/-- A run over events is its first event, then the run over the rest. -/
theorem deliver_cons_of_next {e : Event} {es : List Event} {s t : State} (h : serve e (s.withEvents es) = .next t) :
    deliver (e :: es) s = deliver es t := by
  have he : t.withEvents es = t := by
    have := serve_events h
    rw [State.withEvents_events] at this
    rw [← this, withEvents_events]
  rw [deliver, deliver, List.length_cons, run_succ_of_next (t := t) (by rw [step_withEvents_cons, h]), he]

/-- A run over events that answers next answered next on the first of them. -/
theorem deliver_cons_next {e : Event} {es : List Event} {s t : State} (h : deliver (e :: es) s = .next t) :
    ∃ u, serve e (s.withEvents es) = .next u ∧ deliver es u = .next t := by
  rw [deliver, List.length_cons] at h
  obtain ⟨u, hu, -⟩ := run_succ_next h
  rw [step_withEvents_cons] at hu
  exact ⟨u, hu, by rw [← deliver_cons_of_next hu, deliver]; exact h⟩

end Sys2Proof.Machine
end

