-- ==== Sys2Proof/Laws/Clock.lean ====
section
/-!
SUPPORT. What one clock cycle and a run of cycles can do, said once; where the rounds of a command fall.
-/

namespace Sys2Proof.Machine

/-- In the last cycle of a command all rounds that are left are made. -/
theorem roundsInCycle_last {latency k : Nat} (h : latency ≤ k) (early : List Nat) (done : Nat) :
    roundsInCycle latency early k done = 4 - done := if_pos h

/-- Before the last cycle of a command the fourth round is not made. -/
theorem roundsInCycle_before {latency k : Nat} (h : k < latency) (early : List Nat) (done : Nat) :
    roundsInCycle latency early k done ≤ 3 - done := by
  rw [roundsInCycle, if_neg (by omega)]
  exact Nat.min_le_right _ _

/-- With the reference LATENCY one round is made in each of the cycles 1 to 4, counted from the accepting one. -/
theorem roundsInCycle_reference {k : Nat} (h : k ≤ 4) (early : List Nat) :
    roundsInCycle Config.referenceLatency early k (k - 1) = if k = 0 then 0 else 1 := by
  obtain rfl | rfl | rfl | rfl | rfl : k = 0 ∨ k = 1 ∨ k = 2 ∨ k = 3 ∨ k = 4 := by omega
  all_goals rfl

@[simp] theorem cycleNumber_of_busy {c : ClockedState} (h : c.fte.busy = true) : c.cycleNumber = c.elapsed := by
  rw [ClockedState.cycleNumber, h]; rfl

@[simp] theorem cycleNumber_of_idle {c : ClockedState} (h : c.fte.busy = false) : c.cycleNumber = 0 := by
  rw [ClockedState.cycleNumber, h]; rfl

/-- What a cycle with `rst` low can do: its access, then its rounds. -/
theorem clockCycle_next {latency : Nat} {early : List Nat} {a : Option Descriptor} {c c' : ClockedState}
    (h : clockCycle latency early ⟨false, a⟩ c = some c') :
    ∃ t, deliver (accessEvents ⟨false, a⟩) c.fte = .next t ∧
      deliver (turnsInCycle latency early c.cycleNumber t) t = .next c'.fte ∧ c'.elapsed = c.cycleNumber + 1 := by
  rw [clockCycle, if_neg Bool.false_ne_true] at h
  split at h
  · rename_i t ht
    refine ⟨t, ht, ?_⟩
    cases hd : deliver (turnsInCycle latency early c.cycleNumber t) t <;> rw [hd] at h <;> cases h
    exact ⟨rfl, rfl⟩
  · cases h
  · cases h

/-- A cycle with `rst` low whose access and whose rounds have next states. -/
theorem clockCycle_of_next {latency : Nat} {early : List Nat} {a : Option Descriptor} {c : ClockedState} {t u : State}
    (ht : deliver (accessEvents ⟨false, a⟩) c.fte = .next t)
    (hu : deliver (turnsInCycle latency early c.cycleNumber t) t = .next u) :
    clockCycle latency early ⟨false, a⟩ c = some ⟨u, c.cycleNumber + 1⟩ := by
  rw [clockCycle, if_neg Bool.false_ne_true, ht]
  change nextCycle _ (deliver (turnsInCycle latency early c.cycleNumber t) t) = _
  rw [hu]; rfl

/-- A run whose first cycle has a next state goes on from there. -/
theorem clockRun_cons {latency : Nat} {early : List Nat} {inp : CycleInput} {rest : List CycleInput} {c c' : ClockedState}
    (h : clockCycle latency early inp c = some c') :
    clockRun latency early (inp :: rest) c = clockRun latency early rest c' := by
  rw [clockRun, h]

end Sys2Proof.Machine
end

