-- ==== Sys2Proof/Laws/Datapath.lean ====
section
/-!
SUPPORT. The small lemmas of the datapath: the S-box's closed form and inverse, the key schedule selector's table, and
how a 16-bit value is its two halves.
-/

namespace Sys2Proof.Machine

/-- R105: `SBOX(n) = (n + 6) mod 16`. -/
theorem sbox_eq_add_six : ∀ n : Nibble, sbox n = n + 6#4 := by decide

/-- R106: the inverse is `(n + 10) mod 16`. -/
theorem sbox_add_ten : ∀ n : Nibble, sbox (n + 10#4) = n ∧ sbox n + 10#4 = n := by decide

/-- R112, the encryption column. -/
theorem ksel_encrypt (k1 k2 : Half) :
    ksel .encrypt 1 k1 k2 = k1 ∧ ksel .encrypt 2 k1 k2 = k2 ∧ ksel .encrypt 3 k1 k2 = k1 ∧ ksel .encrypt 4 k1 k2 = k2 :=
  ⟨rfl, rfl, rfl, rfl⟩

/-- R112, the decryption column. -/
theorem ksel_decrypt (k1 k2 : Half) :
    ksel .decrypt 1 k1 k2 = k2 ∧ ksel .decrypt 2 k1 k2 = k1 ∧ ksel .decrypt 3 k1 k2 = k2 ∧ ksel .decrypt 4 k1 k2 = k1 :=
  ⟨rfl, rfl, rfl, rfl⟩

@[simp] theorem feistelRound_fst (lr : Half × Half) (k : Half) : (feistelRound lr k).1 = lr.2 := rfl

@[simp] theorem feistelRound_snd (lr : Half × Half) (k : Half) : (feistelRound lr k).2 = lr.1 ^^^ roundF lr.2 k := rfl

/-- Bit i of COMBINE (R101). -/
theorem getLsbD_combine (a b : Half) (i : Nat) :
    (combine a b).getLsbD i = if i < 8 then b.getLsbD i else a.getLsbD (i - 8) := by
  change BitVec.getLsbD (w := 8 + 8) (a ++ b) i = _
  exact BitVec.getLsbD_append

/-- SPLIT16 undoes COMBINE. -/
@[simp] theorem split16_combine (a b : Half) : split16 (combine a b) = (a, b) := by
  refine Prod.ext ?_ ?_
  · apply BitVec.eq_of_getLsbD_eq
    intro i hi
    change (BitVec.extractLsb' 8 8 (combine a b)).getLsbD i = a.getLsbD i
    rw [BitVec.getLsbD_extractLsb', getLsbD_combine, if_neg (by omega), Nat.add_sub_cancel_left]
    simp [hi]
  · apply BitVec.eq_of_getLsbD_eq
    intro i hi
    change (BitVec.extractLsb' 0 8 (combine a b)).getLsbD i = b.getLsbD i
    rw [BitVec.getLsbD_extractLsb', getLsbD_combine, if_pos (by omega)]
    simp [hi]

/-- The halves of a Block with its halves exchanged. -/
@[simp] theorem split16_swapHalves (v : Block) : split16 (swapHalves v) = ((split16 v).2, (split16 v).1) :=
  split16_combine _ _

/-- COMBINE undoes SPLIT16. -/
@[simp] theorem combine_split16 (v : Block) : combine (split16 v).1 (split16 v).2 = v := by
  apply BitVec.eq_of_getLsbD_eq
  intro i hi
  rw [getLsbD_combine]
  change (if i < 8 then (BitVec.extractLsb' 0 8 v).getLsbD i else (BitVec.extractLsb' 8 8 v).getLsbD (i - 8)) = _
  rw [BitVec.getLsbD_extractLsb', BitVec.getLsbD_extractLsb']
  split
  · simp [*]
  · rw [show 8 + (i - 8) = i by omega]
    simp only [Bool.and_eq_right_iff_imp, decide_eq_true_eq]
    omega

end Sys2Proof.Machine
end

