-- ==== Sys2Proof/Laws/Decode.lean ====
section
/-!
SUPPORT. The fields of a descriptor read back from its parts, and a descriptor put together from its fields: the lemmas
that a proof about the decoder or the encoder cites instead of unfolding them.
-/

namespace Sys2Proof

/-- The bits of a concatenation whose width is written as its sum's value. -/
theorem getLsbD_append_width {a b n : Nat} (h : a + b = n) (x : BitVec a) (y : BitVec b) (i : Nat) :
    BitVec.getLsbD (w := n) (h ▸ (x ++ y)) i = if i < b then y.getLsbD i else x.getLsbD (i - b) := by
  subst h
  exact BitVec.getLsbD_append

@[simp] theorem sizeOfCode_codeOfSize (s : AccessSize) : sizeOfCode (codeOfSize s) = s := by
  cases s <;> decide

theorem codeOfSize_sizeOfCode : ∀ c : BitVec 2, codeOfSize (sizeOfCode c) = c := by decide

/-- Bit i of the descriptor with the given fields (R80). -/
theorem getLsbD_encodeFields (we : Bool) (sz : AccessSize) (off : BitVec 5) (w : Word) (i : Nat) :
    (encodeFields we sz off w).getLsbD i =
      if i < 32 then w.getLsbD i
      else if i < 37 then off.getLsbD (i - 32)
      else if i < 39 then (codeOfSize sz).getLsbD (i - 37)
      else (BitVec.ofBool we).getLsbD (i - 39) := by
  change BitVec.getLsbD (w := 1 + 2 + 5 + 32) (BitVec.ofBool we ++ codeOfSize sz ++ off ++ w) i = _
  rw [BitVec.getLsbD_append, BitVec.getLsbD_append, BitVec.getLsbD_append]
  have h1 : i - 32 < 5 ↔ i < 37 ∨ i < 32 := by omega
  have h2 : i - 32 - 5 < 2 ↔ i < 39 := by omega
  have h3 : i - 32 - 5 = i - 37 := by omega
  have h4 : i - 37 - 2 = i - 39 := by omega
  rw [h3, h4]
  have h5 : i - 37 < 2 ↔ i < 39 := by omega
  split <;> simp_all

@[simp] theorem descWe_encodeFields (we : Bool) (sz : AccessSize) (off : BitVec 5) (w : Word) :
    descWe (encodeFields we sz off w) = we := by
  simp only [descWe, getLsbD_encodeFields]
  cases we <;> rfl

@[simp] theorem descSize_encodeFields (we : Bool) (sz : AccessSize) (off : BitVec 5) (w : Word) :
    descSize (encodeFields we sz off w) = codeOfSize sz := by
  apply BitVec.eq_of_getLsbD_eq
  intro i hi
  rw [descSize, BitVec.getLsbD_extractLsb', getLsbD_encodeFields]
  interval_cases i <;> simp

@[simp] theorem descOff_encodeFields (we : Bool) (sz : AccessSize) (off : BitVec 5) (w : Word) :
    descOff (encodeFields we sz off w) = off := by
  apply BitVec.eq_of_getLsbD_eq
  intro i hi
  rw [descOff, BitVec.getLsbD_extractLsb', getLsbD_encodeFields]
  interval_cases i <;> simp

@[simp] theorem descWdata_encodeFields (we : Bool) (sz : AccessSize) (off : BitVec 5) (w : Word) :
    descWdata (encodeFields we sz off w) = w := by
  apply BitVec.eq_of_getLsbD_eq
  intro i hi
  rw [descWdata, BitVec.getLsbD_extractLsb', getLsbD_encodeFields]
  simp [hi]

/-- The decoder reads the fields that were put into a descriptor. -/
theorem decodeDescriptor_encodeFields (we : Bool) (sz : AccessSize) (off : BitVec 5) (w : Word) :
    decodeDescriptor (encodeFields we sz off w) = decodeFields we sz off w := by
  simp [decodeDescriptor]

/-- A descriptor is put together from its own fields. -/
theorem encodeFields_fields (ht : Descriptor) :
    encodeFields (descWe ht) (sizeOfCode (descSize ht)) (descOff ht) (descWdata ht) = ht := by
  apply BitVec.eq_of_getLsbD_eq
  intro i hi
  rw [getLsbD_encodeFields, codeOfSize_sizeOfCode, descSize, descOff, descWdata, descWe]
  simp only [BitVec.getLsbD_extractLsb', BitVec.getLsbD_ofBool]
  split
  · simp [*]
  · split
    · rw [show 32 + (i - 32) = i by omega]
      simp only [Bool.and_eq_right_iff_imp, decide_eq_true_eq]
      omega
    · split
      · rw [show 37 + (i - 37) = i by omega]
        simp only [Bool.and_eq_right_iff_imp, decide_eq_true_eq]
        omega
      · obtain rfl : i = 39 := by omega
        simp

/-- Bit i of a command word (R84). -/
theorem getLsbD_commandWord (rsvd : BitVec 30) (mode : BitVec 2) (i : Nat) :
    BitVec.getLsbD (w := 32) (rsvd ++ mode) i = if i < 2 then mode.getLsbD i else rsvd.getLsbD (i - 2) :=
  getLsbD_append_width (n := 32) rfl rsvd mode i

/-- A command word's MODE (R84). -/
@[simp] theorem commandWord_mode (rsvd : BitVec 30) (mode : BitVec 2) :
    BitVec.extractLsb' (n := 32) 0 2 (rsvd ++ mode) = mode := by
  apply BitVec.eq_of_getLsbD_eq
  intro i hi
  rw [BitVec.getLsbD_extractLsb', getLsbD_commandWord]
  simp [hi]

/-- A command word's reserved bits (R84). -/
@[simp] theorem commandWord_rsvd (rsvd : BitVec 30) (mode : BitVec 2) :
    BitVec.extractLsb' (n := 32) 2 30 (rsvd ++ mode) = rsvd := by
  apply BitVec.eq_of_getLsbD_eq
  intro i hi
  rw [BitVec.getLsbD_extractLsb', getLsbD_commandWord]
  simp only [hi, decide_true, Bool.true_and, Nat.add_sub_cancel_left]
  rw [if_neg (by omega)]

/-- Bit i of the descriptor whose bytes are given. -/
theorem getLsbD_descriptorOfBytes (b0 b1 b2 b3 b4 : BitVec 8) (i : Nat) :
    (descriptorOfBytes b0 b1 b2 b3 b4).getLsbD i =
      if i < 8 then b0.getLsbD i
      else if i < 16 then b1.getLsbD (i - 8)
      else if i < 24 then b2.getLsbD (i - 16)
      else if i < 32 then b3.getLsbD (i - 24)
      else b4.getLsbD (i - 32) := by
  change BitVec.getLsbD (w := 8 + 8 + 8 + 8 + 8) (b4 ++ b3 ++ b2 ++ b1 ++ b0) i = _
  rw [BitVec.getLsbD_append, BitVec.getLsbD_append, BitVec.getLsbD_append, BitVec.getLsbD_append]
  simp only [Nat.sub_sub]
  repeat' split
  all_goals first | rfl | omega

/-- The bytes of a descriptor, put together, are the descriptor. -/
theorem descriptorOfBytes_bytes (ht : Descriptor) :
    descriptorOfBytes (byteOfDescriptor ht 0) (byteOfDescriptor ht 1) (byteOfDescriptor ht 2) (byteOfDescriptor ht 3)
      (byteOfDescriptor ht 4) = ht := by
  apply BitVec.eq_of_getLsbD_eq
  intro i hi
  rw [getLsbD_descriptorOfBytes]
  simp only [byteOfDescriptor, BitVec.getLsbD_extractLsb']
  repeat' split
  all_goals
    simp only [Nat.reduceMul, Nat.zero_add]
    first
      | rw [Nat.add_sub_cancel' (by omega)]; simp only [Bool.and_eq_right_iff_imp, decide_eq_true_eq]; omega
      | simp only [Bool.and_eq_right_iff_imp, decide_eq_true_eq]; omega

/-- The byte decoder on the bytes of a descriptor. -/
theorem decodeBytes_bytesOfDescriptor (ht : Descriptor) (rest : List (BitVec 8)) :
    decodeBytes (bytesOfDescriptor ht ++ rest) = .ok (decodeDescriptor ht, rest) := by
  simp [bytesOfDescriptor, decodeBytes, descriptorOfBytes_bytes]

/-- A table word of 40 bits decodes to its descriptor's instruction. -/
theorem decodeTableWord_of_lt (w : Nat) (h : w < 2 ^ 40) :
    decodeTableWord 40 w = some (decodeDescriptor (BitVec.ofNat 40 w)) := by
  have hb := decodeBytes_bytesOfDescriptor (BitVec.ofNat 40 w) []
  rw [List.append_nil] at hb
  rw [decodeTableWord, descriptorOfTableWord, Nat.mod_eq_of_lt h, if_pos h, hb]

end Sys2Proof
end

