-- ==== Sys2Proof/Laws/PerInstr.lean ====
section
/-!
SUPPORT. A family of statements about every instruction as syntax, one lemma per constructor: the descriptor that
`encode` writes is of the instruction's own row of spec/opcode_table.json (its match under its mask).
-/

namespace Sys2Proof.Laws

/-- The row of an instruction, by its mnemonic. -/
def rowOf (i : Instr) : Option OpcodeRow := opcodeRows.find? (fun r => r.mnemonic == mnemonicOf i)

/-- Bits of a descriptor under a mask, bit by bit: what is left to check is a statement about each of the 40 bits. -/
theorem and_mask_eq {we : Bool} {sz : AccessSize} {off : BitVec 5} {w : Word} {m v : Descriptor}
    (hw : ∀ i < 32, (w.getLsbD i && m.getLsbD i) = v.getLsbD i)
    (ho : ∀ i < 5, (off.getLsbD i && m.getLsbD (32 + i)) = v.getLsbD (32 + i))
    (hs : ∀ i < 2, ((codeOfSize sz).getLsbD i && m.getLsbD (37 + i)) = v.getLsbD (37 + i))
    (hb : (we && m.getLsbD 39) = v.getLsbD 39) : encodeFields we sz off w &&& m = v := by
  apply BitVec.eq_of_getLsbD_eq
  intro i hi
  rw [BitVec.getLsbD_and, getLsbD_encodeFields]
  split
  · exact hw i ‹_›
  · split
    · have := ho (i - 32) (by omega)
      rwa [show 32 + (i - 32) = i by omega] at this
    · split
      · have := hs (i - 37) (by omega)
        rwa [show 37 + (i - 37) = i by omega] at this
      · obtain rfl : i = 39 := by omega
        simpa [BitVec.getLsbD_ofBool] using hb

/-- A row whose mask leaves the write data out. -/
theorem and_mask_eq_of_high {we : Bool} {sz : AccessSize} {off : BitVec 5} (w : Word) {m v : Descriptor}
    (hm : m.extractLsb' 0 32 = 0#32) (hv : v.extractLsb' 0 32 = 0#32)
    (ho : ∀ i < 5, (off.getLsbD i && m.getLsbD (32 + i)) = v.getLsbD (32 + i))
    (hs : ∀ i < 2, ((codeOfSize sz).getLsbD i && m.getLsbD (37 + i)) = v.getLsbD (37 + i))
    (hb : (we && m.getLsbD 39) = v.getLsbD 39) : encodeFields we sz off w &&& m = v := by
  refine and_mask_eq (fun i hi => ?_) ho hs hb
  have h1 := congrArg (fun x => x.getLsbD i) hm
  have h2 := congrArg (fun x => x.getLsbD i) hv
  simp only [BitVec.getLsbD_extractLsb', hi, decide_true, Bool.true_and, Nat.zero_add, BitVec.getLsbD_zero] at h1 h2
  rw [h1, h2, Bool.and_false]

/-- The row of a command: MODE is under the mask, the reserved bits are not. -/
theorem and_mask_eq_command (r : BitVec 30) (mode : BitVec 2) {v : Descriptor}
    (h0 : mode.getLsbD 0 = v.getLsbD 0) (h1 : mode.getLsbD 1 = v.getLsbD 1)
    (hv : v &&& 0xFFFFFFFFFC#40 = 0xC800000000#40) : encodeCommand mode r &&& 0xFF00000003#40 = v := by
  have hb : ∀ i < 40, 2 ≤ i → v.getLsbD i = (0xC800000000#40).getLsbD i := by
    intro i hi h2
    have := congrArg (fun x => x.getLsbD i) hv
    simp only [BitVec.getLsbD_and] at this
    have hm : ∀ j < 40, 2 ≤ j → (0xFFFFFFFFFC#40).getLsbD j = true := by decide
    rwa [hm i hi h2, Bool.and_true] at this
  refine and_mask_eq (fun i hi => ?_) (fun i hi => ?_) (fun i hi => ?_) ?_
  · rw [getLsbD_commandWord]
    split
    · interval_cases i
      · simpa using h0
      · simpa using h1
    · rw [hb i (by omega) (by omega)]
      have hz : ∀ j < 32, 2 ≤ j →
          (0xFF00000003#40).getLsbD j = false ∧ (0xC800000000#40).getLsbD j = false := by decide
      have := hz i hi (by omega)
      rw [this.1, this.2, Bool.and_false]
  · rw [hb (32 + i) (by omega) (by omega)]
    revert i; decide
  · rw [hb (37 + i) (by omega) (by omega)]
    revert i; decide
  · rw [hb 39 (by omega) (by omega)]
    decide

/-- `encode` writes a descriptor of the instruction's own row. -/
def EncodesItsRow.Statement (i : Instr) : Prop :=
  i.wellFormed = true → ∃ r, rowOf i = some r ∧ r.covers (encode i) = true

theorem encodesItsRow_of_row {i : Instr} (r : OpcodeRow) (h : rowOf i = some r)
    (hc : i.wellFormed = true → encode i &&& r.mask = r.value) : EncodesItsRow.Statement i :=
  fun hw => ⟨r, h, by simp [OpcodeRow.covers, hc hw]⟩

theorem EncodesItsRow.rdDataIn (w : Word) : EncodesItsRow.Statement (.rdDataIn w) :=
  encodesItsRow_of_row ⟨"RD_DATA_IN", 0x4000000000#40, 0xFF00000000#40⟩ rfl fun _ =>
    and_mask_eq_of_high w (by decide) (by decide) (by decide) (by decide) (by decide)

theorem EncodesItsRow.rdKey (w : Word) : EncodesItsRow.Statement (.rdKey w) :=
  encodesItsRow_of_row ⟨"RD_KEY", 0x4400000000#40, 0xFF00000000#40⟩ rfl fun _ =>
    and_mask_eq_of_high w (by decide) (by decide) (by decide) (by decide) (by decide)

theorem EncodesItsRow.rdCmd (w : Word) : EncodesItsRow.Statement (.rdCmd w) :=
  encodesItsRow_of_row ⟨"RD_CMD", 0x4800000000#40, 0xFF00000000#40⟩ rfl fun _ =>
    and_mask_eq_of_high w (by decide) (by decide) (by decide) (by decide) (by decide)

theorem EncodesItsRow.rdStatus (w : Word) : EncodesItsRow.Statement (.rdStatus w) :=
  encodesItsRow_of_row ⟨"RD_STATUS", 0x4C00000000#40, 0xFF00000000#40⟩ rfl fun _ =>
    and_mask_eq_of_high w (by decide) (by decide) (by decide) (by decide) (by decide)

theorem EncodesItsRow.rdResult (w : Word) : EncodesItsRow.Statement (.rdResult w) :=
  encodesItsRow_of_row ⟨"RD_RESULT", 0x5000000000#40, 0xFF00000000#40⟩ rfl fun _ =>
    and_mask_eq_of_high w (by decide) (by decide) (by decide) (by decide) (by decide)

theorem EncodesItsRow.wrDataIn (w : Word) : EncodesItsRow.Statement (.wrDataIn w) :=
  encodesItsRow_of_row ⟨"WR_DATA_IN", 0xC000000000#40, 0xFF00000000#40⟩ rfl fun _ =>
    and_mask_eq_of_high w (by decide) (by decide) (by decide) (by decide) (by decide)

theorem EncodesItsRow.wrKey (w : Word) : EncodesItsRow.Statement (.wrKey w) :=
  encodesItsRow_of_row ⟨"WR_KEY", 0xC400000000#40, 0xFF00000000#40⟩ rfl fun _ =>
    and_mask_eq_of_high w (by decide) (by decide) (by decide) (by decide) (by decide)

theorem EncodesItsRow.wrStatus (w : Word) : EncodesItsRow.Statement (.wrStatus w) :=
  encodesItsRow_of_row ⟨"WR_STATUS", 0xCC00000000#40, 0xFF00000000#40⟩ rfl fun _ =>
    and_mask_eq_of_high w (by decide) (by decide) (by decide) (by decide) (by decide)

theorem EncodesItsRow.wrResult (w : Word) : EncodesItsRow.Statement (.wrResult w) :=
  encodesItsRow_of_row ⟨"WR_RESULT", 0xD000000000#40, 0xFF00000000#40⟩ rfl fun _ =>
    and_mask_eq_of_high w (by decide) (by decide) (by decide) (by decide) (by decide)

theorem EncodesItsRow.encrypt (r : BitVec 30) : EncodesItsRow.Statement (.encrypt r) :=
  encodesItsRow_of_row ⟨"ENCRYPT", 0xC800000001#40, 0xFF00000003#40⟩ rfl fun _ =>
    and_mask_eq_command r _ (by decide) (by decide) (by decide)

theorem EncodesItsRow.decrypt (r : BitVec 30) : EncodesItsRow.Statement (.decrypt r) :=
  encodesItsRow_of_row ⟨"DECRYPT", 0xC800000002#40, 0xFF00000003#40⟩ rfl fun _ =>
    and_mask_eq_command r _ (by decide) (by decide) (by decide)

theorem EncodesItsRow.invalidMode00 (r : BitVec 30) : EncodesItsRow.Statement (.invalidMode00 r) :=
  encodesItsRow_of_row ⟨"INVALID_MODE_00", 0xC800000000#40, 0xFF00000003#40⟩ rfl fun _ =>
    and_mask_eq_command r _ (by decide) (by decide) (by decide)

theorem EncodesItsRow.invalidMode11 (r : BitVec 30) : EncodesItsRow.Statement (.invalidMode11 r) :=
  encodesItsRow_of_row ⟨"INVALID_MODE_11", 0xC800000003#40, 0xFF00000003#40⟩ rfl fun _ =>
    and_mask_eq_command r _ (by decide) (by decide) (by decide)

theorem EncodesItsRow.rdRsvd14 (w : Word) : EncodesItsRow.Statement (.rdRsvd14 w) :=
  encodesItsRow_of_row ⟨"RD_RSVD_14", 0x5400000000#40, 0xFF00000000#40⟩ rfl fun _ =>
    and_mask_eq_of_high w (by decide) (by decide) (by decide) (by decide) (by decide)

theorem EncodesItsRow.rdRsvd18 (w : Word) : EncodesItsRow.Statement (.rdRsvd18 w) :=
  encodesItsRow_of_row ⟨"RD_RSVD_18", 0x5800000000#40, 0xFF00000000#40⟩ rfl fun _ =>
    and_mask_eq_of_high w (by decide) (by decide) (by decide) (by decide) (by decide)

theorem EncodesItsRow.rdRsvd1C (w : Word) : EncodesItsRow.Statement (.rdRsvd1C w) :=
  encodesItsRow_of_row ⟨"RD_RSVD_1C", 0x5C00000000#40, 0xFF00000000#40⟩ rfl fun _ =>
    and_mask_eq_of_high w (by decide) (by decide) (by decide) (by decide) (by decide)

theorem EncodesItsRow.wrRsvd14 (w : Word) : EncodesItsRow.Statement (.wrRsvd14 w) :=
  encodesItsRow_of_row ⟨"WR_RSVD_14", 0xD400000000#40, 0xFF00000000#40⟩ rfl fun _ =>
    and_mask_eq_of_high w (by decide) (by decide) (by decide) (by decide) (by decide)

theorem EncodesItsRow.wrRsvd18 (w : Word) : EncodesItsRow.Statement (.wrRsvd18 w) :=
  encodesItsRow_of_row ⟨"WR_RSVD_18", 0xD800000000#40, 0xFF00000000#40⟩ rfl fun _ =>
    and_mask_eq_of_high w (by decide) (by decide) (by decide) (by decide) (by decide)

theorem EncodesItsRow.wrRsvd1C (w : Word) : EncodesItsRow.Statement (.wrRsvd1C w) :=
  encodesItsRow_of_row ⟨"WR_RSVD_1C", 0xDC00000000#40, 0xFF00000000#40⟩ rfl fun _ =>
    and_mask_eq_of_high w (by decide) (by decide) (by decide) (by decide) (by decide)

theorem EncodesItsRow.busErrSize8 (we : Bool) (off : BitVec 5) (w : Word) :
    EncodesItsRow.Statement (.busErrSize8 we off w) :=
  encodesItsRow_of_row ⟨"BUS_ERR_SIZE_8", 0x0000000000#40, 0x6000000000#40⟩ rfl fun _ =>
    and_mask_eq_of_high w (by decide) (by decide) (by clear * -; revert off; decide) (by decide) (by cases we <;> decide)

theorem EncodesItsRow.busErrSize16 (we : Bool) (off : BitVec 5) (w : Word) :
    EncodesItsRow.Statement (.busErrSize16 we off w) :=
  encodesItsRow_of_row ⟨"BUS_ERR_SIZE_16", 0x2000000000#40, 0x6000000000#40⟩ rfl fun _ =>
    and_mask_eq_of_high w (by decide) (by decide) (by clear * -; revert off; decide) (by decide) (by cases we <;> decide)

theorem EncodesItsRow.busErrSizeOther (we : Bool) (off : BitVec 5) (w : Word) :
    EncodesItsRow.Statement (.busErrSizeOther we off w) :=
  encodesItsRow_of_row ⟨"BUS_ERR_SIZE_OTHER", 0x6000000000#40, 0x6000000000#40⟩ rfl fun _ =>
    and_mask_eq_of_high w (by decide) (by decide) (by clear * -; revert off; decide) (by decide) (by cases we <;> decide)

theorem EncodesItsRow.busErrAlignOdd (we : Bool) (off : BitVec 5) (w : Word) :
    EncodesItsRow.Statement (.busErrAlignOdd we off w) :=
  encodesItsRow_of_row ⟨"BUS_ERR_ALIGN_ODD", 0x4100000000#40, 0x6100000000#40⟩ rfl fun hw =>
    and_mask_eq_of_high w (by decide) (by decide)
      (by revert off; simp only [Instr.wellFormed]; decide) (by decide) (by cases we <;> decide)

theorem EncodesItsRow.busErrAlign2 (we : Bool) (off : BitVec 5) (w : Word) :
    EncodesItsRow.Statement (.busErrAlign2 we off w) :=
  encodesItsRow_of_row ⟨"BUS_ERR_ALIGN_2", 0x4200000000#40, 0x6300000000#40⟩ rfl fun hw =>
    and_mask_eq_of_high w (by decide) (by decide)
      (by revert off; simp only [Instr.wellFormed]; decide) (by decide) (by cases we <;> decide)

end Sys2Proof.Laws
end

