-- ==== Sys2Proof/Tests/Slice0.lean ====
section
/-!
SUPPORT. The model's own tests. Every expected value is the spec's: the vectors V-* and programs P* of
spec/95_test_vectors.md, or the rule named. After them, one witness for each statement that has hypotheses: a concrete
state and operands that meet all of them together.
-/

namespace Sys2Proof.Tests

open Sys2Proof.Machine

/-- The next state of an answer, if it has one. -/
def nextOf : Host.Outcome State Fault Refusal → Option State
  | .next s => some s
  | .fault _ => none
  | .refused _ => none

/-- The fault of an answer, if it is one. -/
def faultOf : Host.Outcome State Fault Refusal → Option Fault
  | .next _ => none
  | .fault f => some f
  | .refused _ => none

/-- The refusal of an answer, if it is one. -/
def refusalOf : Host.Outcome State Fault Refusal → Option Refusal
  | .next _ => none
  | .fault _ => none
  | .refused r => some r

/-! ### Well-formedness: each check refuses an ill-formed term -/

theorem test_alignOdd_needs_odd_offset : (Instr.busErrAlignOdd false 0x02#5 0#32).wellFormed = false := by decide
theorem test_alignOdd_odd_offset : (Instr.busErrAlignOdd false 0x1F#5 0#32).wellFormed = true := by decide
theorem test_align2_refuses_odd_offset : (Instr.busErrAlign2 true 0x03#5 0#32).wellFormed = false := by decide
theorem test_align2_refuses_aligned_offset : (Instr.busErrAlign2 true 0x04#5 0#32).wellFormed = false := by decide
theorem test_align2_offset : (Instr.busErrAlign2 true 0x1E#5 0#32).wellFormed = true := by decide

/-! ### Decoding: each constructor from a descriptor the spec writes out -/

/-- R161. -/
theorem test_decode_rdDataIn : decodeTableWord 40 0x40DEADBEEF = some (.rdDataIn 0xDEADBEEF#32) := by decide

/-- R163. -/
theorem test_decode_rdKey : decodeTableWord 40 0x4400000000 = some (.rdKey 0#32) := by decide

/-- R165. -/
theorem test_decode_rdCmd : decodeTableWord 40 0x4800000000 = some (.rdCmd 0#32) := by decide

/-- R166. -/
theorem test_decode_rdStatus : decodeTableWord 40 0x4C00000000 = some (.rdStatus 0#32) := by decide

/-- R167. -/
theorem test_decode_rdResult : decodeTableWord 40 0x5000000000 = some (.rdResult 0#32) := by decide

/-- V-A1. -/
theorem test_decode_wrDataIn : decodeTableWord 40 0xC0FFFFACAA = some (.wrDataIn 0xFFFFACAA#32) := by decide

/-- V-A3. -/
theorem test_decode_wrKey : decodeTableWord 40 0xC40001AA55 = some (.wrKey 0x0001AA55#32) := by decide

/-- V-A6. -/
theorem test_decode_wrStatus : decodeTableWord 40 0xCC00000000 = some (.wrStatus 0#32) := by decide

/-- V-A7. -/
theorem test_decode_wrResult : decodeTableWord 40 0xD000001234 = some (.wrResult 0x1234#32) := by decide

/-- V-C3. -/
theorem test_decode_encrypt : decodeTableWord 40 0xC8FFFFFFFD = some (.encrypt 0x3FFFFFFF#30) := by decide

/-- R141: 0x00000006 is DECRYPT. -/
theorem test_decode_decrypt : decodeTableWord 40 0xC800000006 = some (.decrypt 1#30) := by decide

/-- V-X3. -/
theorem test_decode_invalidMode00 : decodeTableWord 40 0xC800000004 = some (.invalidMode00 1#30) := by decide

/-- R139: 0xFFFFFFFF is INVALID_MODE. -/
theorem test_decode_invalidMode11 : decodeTableWord 40 0xC8FFFFFFFF = some (.invalidMode11 0x3FFFFFFF#30) := by decide

/-- R83. -/
theorem test_decode_rdRsvd14 : decodeTableWord 40 0x5400000000 = some (.rdRsvd14 0#32) := by decide

/-- V-A8. -/
theorem test_decode_rdRsvd18 : decodeTableWord 40 0x5800000000 = some (.rdRsvd18 0#32) := by decide

/-- P5. -/
theorem test_decode_rdRsvd1C : decodeTableWord 40 0x5C00000000 = some (.rdRsvd1C 0#32) := by decide

/-- V-A9. -/
theorem test_decode_wrRsvd14 : decodeTableWord 40 0xD4FFFFFFFF = some (.wrRsvd14 0xFFFFFFFF#32) := by decide

/-- R83. -/
theorem test_decode_wrRsvd18 : decodeTableWord 40 0xD800000000 = some (.wrRsvd18 0#32) := by decide

/-- R83. -/
theorem test_decode_wrRsvd1C : decodeTableWord 40 0xDC00000000 = some (.wrRsvd1C 0#32) := by decide

/-- V-BE1. -/
theorem test_decode_busErrSize8 : decodeTableWord 40 0x8800000001 = some (.busErrSize8 true 0x08#5 1#32) := by decide

/-- V-BE7: size is checked first. -/
theorem test_decode_busErrSize8_odd_offset : decodeTableWord 40 0x0300000000 = some (.busErrSize8 false 0x03#5 0#32) := by decide

/-- V-BE2. -/
theorem test_decode_busErrSize16 : decodeTableWord 40 0xA000001234 = some (.busErrSize16 true 0x00#5 0x1234#32) := by decide

/-- V-BE3. -/
theorem test_decode_busErrSizeOther : decodeTableWord 40 0x6C00000000 = some (.busErrSizeOther false 0x0C#5 0#32) := by decide

/-- V-BE6. -/
theorem test_decode_busErrAlignOdd : decodeTableWord 40 0x4100000000 = some (.busErrAlignOdd false 0x01#5 0#32) := by decide

/-- V-BE5. -/
theorem test_decode_busErrAlign2 : decodeTableWord 40 0xCA00000001 = some (.busErrAlign2 true 0x0A#5 1#32) := by decide

/-- Four bytes hold no descriptor. -/
theorem test_decode_truncated : decodeBytes [0#8, 0#8, 0#8, 0xC8#8] = .error .truncatedDescriptor := by rfl

/-- Byte 4 of HT is bits 39:32 (R83). -/
theorem test_encode_bytes : encodeBytes (.wrKey 0x0000AA55#32) = [0x55#8, 0xAA#8, 0x00#8, 0x00#8, 0xC4#8] := by decide

/-! ### The datapath (spec/95_test_vectors.md 2.1 to 2.6) -/

/-- V-S1 to V-S4. -/
theorem test_sbox : sbox 0x0#4 = 0x6#4 ∧ sbox 0x9#4 = 0xF#4 ∧ sbox 0xA#4 = 0x0#4 ∧ sbox 0xF#4 = 0x5#4 := by decide

/-- V-U2, V-U4, V-U5. -/
theorem test_sub8 : sub8 0xAA#8 = 0x00#8 ∧ sub8 0x0F#8 = 0x65#8 ∧ sub8 0x9A#8 = 0xF0#8 := by decide

/-- V-F1 (the source's own example X2), V-F7, V-F11. -/
theorem test_roundF : roundF 0xAC#8 0xAA#8 = 0x6C#8 ∧ roundF 0x12#8 0x34#8 = 0x8C#8 ∧ roundF 0x80#8 0x01#8 = 0xE7#8 := by
  decide

/-- V-K1. -/
theorem test_ksel_encrypt : [1, 2, 3, 4].map (fun j => ksel .encrypt j 0xAA#8 0x55#8) = [0xAA#8, 0x55#8, 0xAA#8, 0x55#8] := by
  decide

/-- V-K2. -/
theorem test_ksel_decrypt : [1, 2, 3, 4].map (fun j => ksel .decrypt j 0xAA#8 0x55#8) = [0x55#8, 0xAA#8, 0x55#8, 0xAA#8] := by
  decide

/-- V-R4. -/
theorem test_round : feistelRound (0x12#8, 0x34#8) 0xAB#8 = (0x34#8, 0xE7#8) := by decide

/-- V-E1, V-E2, V-E4, V-E14. -/
theorem test_enc : enc 0x0000#16 0x0000#16 = 0x4466#16 ∧ enc 0xACAA#16 0xAA55#16 = 0x9175#16 ∧
    enc 0x1234#16 0xABCD#16 = 0x9201#16 ∧ enc 0xACAA#16 0x55AA#16 = 0x5546#16 := by decide

/-- V-D2, V-D3 (which tell the literal reading of the source apart), V-D5, V-D10. -/
theorem test_dec : dec 0x9175#16 0xAA55#16 = 0xACAA#16 ∧ dec 0x9201#16 0xABCD#16 = 0x1234#16 ∧
    dec 0x4567#16 0x0000#16 = 0x0001#16 ∧ dec 0x0000#16 0x0000#16 = 0x6644#16 := by decide

/-- The last column of V-D1 to V-D9: the literal reading of the source, which the model does not implement. -/
theorem test_literal_reading :
    [(0x4466#16, 0x0000#16), (0x9175#16, 0xAA55#16), (0x9201#16, 0xABCD#16), (0xBB99#16, 0xFFFF#16), (0x4567#16, 0x0000#16),
      (0x45E6#16, 0x0100#16), (0xFFAA#16, 0x0000#16), (0x4499#16, 0xFF00#16), (0xA5F0#16, 0x5A5A#16)].map
        (fun ck => literalDec ck.1 ck.2) =
    [0x0000#16, 0x661F#16, 0x7830#16, 0xFFFF#16, 0x0100#16, 0x0081#16, 0xFFFF#16, 0x3333#16, 0xA5A5#16] := by decide

/-! ### Small states -/

/-- The start of V-C1: ACAA, AA55, 0000, 0x0. -/
def loaded : State := { State.reset with dataIn := 0xACAA#16, key := 0xAA55#16 }

/-- The state of V-B1: busy; 1234, ABCD, 0000, 0x1; 12, 34, AB, CD, 0, 0. -/
def running : State :=
  { State.reset with dataIn := 0x1234#16, key := 0xABCD#16, busy := true, l := 0x12#8, r := 0x34#8, sk1 := 0xAB#8,
                     sk2 := 0xCD#8 }

/-- The end of V-C2: 9175, AA55, ACAA, 0x2; AA, AC, AA, 55, 1, 4. -/
def decrypted : State :=
  { State.reset with dataIn := 0x9175#16, key := 0xAA55#16, result := 0xACAA#16, done := true, l := 0xAA#8, r := 0xAC#8,
                     sk1 := 0xAA#8, sk2 := 0x55#8, dir := .decrypt, ctr := 4#3 }

/-- The end of V-X1: as `decrypted`, with RESULT 0000 and STATUS 0xA. -/
def rejected : State := { decrypted with result := 0x0000#16, err := .invalidMode }

/-- `loaded` with a fault mark. -/
def marked : State := { loaded with faultMark := some ⟨true, .bits8, 0x08#5⟩ }

/-! ### Meanings -/

/-- V-A2. -/
theorem test_rdDataIn : nextOf (exec (.rdDataIn 0#32) loaded) = some { loaded with resp := .data 0x0000ACAA#32 } := by decide

/-- V-A4. -/
theorem test_rdKey : nextOf (exec (.rdKey 0#32) loaded) = some { loaded with resp := .data 0x0000AA55#32 } := by decide

/-- V-A5. -/
theorem test_rdCmd : nextOf (exec (.rdCmd 0#32) running) = some { running with resp := .data 0x00000000#32 } := by decide

/-- R166: a valid command in flight reads 0x1. -/
theorem test_rdStatus_busy : nextOf (exec (.rdStatus 0#32) running) = some { running with resp := .data 0x00000001#32 } := by
  decide

/-- R166: after INVALID_MODE, 0xA. -/
theorem test_rdStatus_invalid : nextOf (exec (.rdStatus 0#32) rejected) = some { rejected with resp := .data 0x0000000A#32 } := by
  decide

/-- P2. -/
theorem test_rdResult : nextOf (exec (.rdResult 0#32) decrypted) = some { decrypted with resp := .data 0x0000ACAA#32 } := by
  decide

/-- V-A1. -/
theorem test_wrDataIn : nextOf (exec (.wrDataIn 0xFFFFACAA#32) State.reset) =
    some { State.reset with dataIn := 0xACAA#16, resp := .okay } := by decide

/-- V-A3. -/
theorem test_wrKey : nextOf (exec (.wrKey 0x0001AA55#32) State.reset) =
    some { State.reset with key := 0xAA55#16, resp := .okay } := by decide

/-- V-A6. -/
theorem test_wrStatus : nextOf (exec (.wrStatus 0#32) rejected) = some { rejected with resp := .okay } := by decide

/-- V-A7. -/
theorem test_wrResult : nextOf (exec (.wrResult 0x1234#32) decrypted) = some { decrypted with resp := .okay } := by decide

/-- V-A8 and its two neighbours. -/
theorem test_rdRsvd : nextOf (exec (.rdRsvd14 0#32) decrypted) = some { decrypted with resp := .data 0#32 } ∧
    nextOf (exec (.rdRsvd18 0#32) decrypted) = some { decrypted with resp := .data 0#32 } ∧
    nextOf (exec (.rdRsvd1C 0#32) decrypted) = some { decrypted with resp := .data 0#32 } := by decide

/-- V-A9 and its two neighbours. -/
theorem test_wrRsvd : nextOf (exec (.wrRsvd14 0xFFFFFFFF#32) decrypted) = some { decrypted with resp := .okay } ∧
    nextOf (exec (.wrRsvd18 0xFFFFFFFF#32) decrypted) = some { decrypted with resp := .okay } ∧
    nextOf (exec (.wrRsvd1C 0xFFFFFFFF#32) decrypted) = some { decrypted with resp := .okay } := by decide

/-- The start row of V-E2's trace. -/
theorem test_encrypt_accepted : nextOf (exec (.encrypt 0#30) loaded) =
    some { loaded with busy := true, l := 0xAC#8, r := 0xAA#8, sk1 := 0xAA#8, sk2 := 0x55#8, resp := .okay } := by decide

/-- P2: the entry of DEC is (L, R) = (75, 91). -/
theorem test_decrypt_accepted : nextOf (exec (.decrypt 0#30) decrypted) =
    some { decrypted with busy := true, done := false, l := 0x75#8, r := 0x91#8, ctr := 0#3, resp := .okay } := by decide

/-- V-B1. -/
theorem test_decrypt_dropped : nextOf (exec (.decrypt 0#30) running) = some { running with resp := .okay } := by decide

/-- V-X2. -/
theorem test_invalidMode00 : nextOf (exec (.invalidMode00 0#30) State.reset) =
    some { State.reset with done := true, err := .invalidMode, resp := .okay } := by decide

/-- V-X1. -/
theorem test_invalidMode11 : nextOf (exec (.invalidMode11 0#30) decrypted) = some { rejected with resp := .okay } := by decide

/-- V-B2. -/
theorem test_invalidMode11_dropped : nextOf (exec (.invalidMode11 0#30) running) = some { running with resp := .okay } := by
  decide

/-- V-BE1 and P6: the register state stays, the mark records WE = 1, SIZE = 0b00, OFF = 0x08. -/
theorem test_busErrSize8 : nextOf (exec (.busErrSize8 true 0x08#5 1#32) loaded) = some { marked with resp := .error } := by
  decide

/-- V-BE2. -/
theorem test_busErrSize16 : nextOf (exec (.busErrSize16 true 0x00#5 0x1234#32) loaded) =
    some { loaded with faultMark := some ⟨true, .bits16, 0x00#5⟩, resp := .error } := by decide

/-- V-BE3. -/
theorem test_busErrSizeOther : nextOf (exec (.busErrSizeOther false 0x0C#5 0#32) loaded) =
    some { loaded with faultMark := some ⟨false, .other, 0x0C#5⟩, resp := .error } := by decide

/-- V-BE6. -/
theorem test_busErrAlignOdd : nextOf (exec (.busErrAlignOdd false 0x01#5 0#32) loaded) =
    some { loaded with faultMark := some ⟨false, .bits32, 0x01#5⟩, resp := .error } := by decide

/-- V-BE5. -/
theorem test_busErrAlign2 : nextOf (exec (.busErrAlign2 true 0x0A#5 1#32) loaded) =
    some { loaded with faultMark := some ⟨true, .bits32, 0x0A#5⟩, resp := .error } := by decide

/-! ### Steps -/

/-- V-E4's trace, step 1. -/
theorem test_engine_first_round : nextOf (step running) =
    some { running with l := 0x34#8, r := 0xE7#8, ctr := 1#3 } := by decide

/-- V-E4's trace, step 4: the command completes with 0x9201. -/
theorem test_engine_last_round :
    nextOf (step { running with l := 0xB4#8, r := 0x92#8, ctr := 3#3 }) =
      some { running with l := 0x92#8, r := 0x01#8, ctr := 4#3, result := 0x9201#16, busy := false, done := true } := by
  decide

/-- V-D2's trace, step 4: the exit swap. -/
theorem test_engine_exit_swap :
    (nextOf (step { decrypted with busy := true, done := false, l := 0xCA#8, r := 0xAA#8, ctr := 3#3, result := 0#16 })).map
      (fun t => (t.l, t.r, t.result, t.busy, t.done)) = some (0xAA#8, 0xAC#8, 0xACAA#16, false, true) := by decide

/-- The first access after reset, as the host places it. -/
theorem test_withFetchWord : nextOf (step (State.reset.withFetchWord 40 0xC800000001)) =
    some { State.reset with busy := true, resp := .okay } := by decide

/-- V-RS2: a reset aborts the command in flight. -/
theorem test_reset_aborts : nextOf (step { running with ctr := 2#3, events := [.reset none] }) = some State.reset := by decide

/-- V-RS4: the mark stays. -/
theorem test_reset_keeps_mark : nextOf (step { marked with events := [.reset none] }) =
    some { State.reset with faultMark := marked.faultMark } := by decide

/-- P6: no further step past a bus error. -/
theorem test_past_bus_error : faultOf (step { marked with events := [.access 0x4C00000000#40] }) =
    some (.pastBusError ⟨true, .bits8, 0x08#5⟩) := by decide

/-- R230, I10. -/
theorem test_access_during_reset : refusalOf (step { loaded with events := [.reset (some 0x4C00000000#40)] }) =
    some .accessDuringReset := by decide

/-! ### The host's side -/

/-- R50, R80: a 4-byte write at FTE_BASE + 4 is HT 0xC4_0000AA55. -/
theorem test_window_write : descriptorOfBus 0x40000000 ⟨true, 0x40000004, 4, 0x0000AA55#32⟩ = some 0xC40000AA55#40 := by decide

/-- R50: the first address past the window does not reach the FTE. -/
theorem test_window_end : descriptorOfBus 0x40000000 ⟨true, 0x40000020, 4, 0#32⟩ = none := by decide

/-- R9, R150: "1010110010101010" is 0xACAA. -/
theorem test_parse16 : parse16 ['1', '0', '1', '0', '1', '1', '0', '0', '1', '0', '1', '0', '1', '0', '1', '0'] =
    some 0xACAA#16 := by decide

/-- V-H6: the block's error comes first, with either ADAPTER_PARITY. -/
theorem test_adapter_format_error : validateInput ['1', '2'] (format16 0xAA55#16) ['f', 'o', 'o'] = .error .format := by rfl

/-- V-H7: mode strings are case-sensitive. -/
theorem test_adapter_mode_case :
    validateInput (format16 0xACAA#16) (format16 0xAA55#16) ['E', 'n', 'c', 'r', 'y', 'p', 't'] = .error .invalidMode := by rfl

/-- A schedule whose engine gets its four turns between two reads of STATUS. -/
def slowPolls : RunSchedule := ⟨0, 1, 0, [0, 3, 1], 0⟩

/-- V-H1. -/
theorem test_adapter_encrypt :
    (adapterTransform false slowPolls (format16 0xACAA#16) (format16 0xAA55#16) encryptMode State.reset).map (fun a => a.1) =
      some ⟨.text (format16 0x9175#16), false⟩ := by decide

/-- R245: with the reference LATENCY the result of a command accepted in cycle 0 stands from cycle 5 and not from cycle 4. -/
theorem test_clock_reference :
    [3, 4].map (fun n => (clockRun Config.referenceLatency [] (accessCycles (some encLine :: List.replicate n none)) ⟨loaded, 0⟩).map
      (fun t => (t.fte.busy, t.fte.done, t.fte.result))) =
    [some (true, false, 0x0000#16), some (false, true, 0x9175#16)] := by decide

/-- R245, "any fixed LATENCY >= 0": with LATENCY = 0 the result stands from the next cycle, with LATENCY = 6 from cycle 7. -/
theorem test_clock_latency :
    (clockRun 0 [] (accessCycles [some encLine]) ⟨loaded, 0⟩).map (fun t => (t.fte.busy, t.fte.result)) = some (false, 0x9175#16) ∧
    [5, 6].map (fun n => (clockRun 6 [0, 3, 9] (accessCycles (some encLine :: List.replicate n none)) ⟨loaded, 0⟩).map
      (fun t => (t.fte.busy, t.fte.result))) = [some (true, 0x0000#16), some (false, 0x9175#16)] := by decide

/-! ### Witnesses: for each statement with hypotheses, values that meet them all -/

/-- `running`, with the engine's turn next. -/
def turning : State := { running with events := [.engineTurn] }

/-- `loaded`, with an ENCRYPT next. -/
def commanded : State := { loaded with events := [.access 0xC800000001#40] }

/-- `decrypted`, with a second ENCRYPT next. -/
def recommanded : State := { decrypted with events := [.access 0xC800000001#40] }

/-- `loaded`, with an illegal access next. -/
def misused : State := { loaded with events := [.access 0x8800000001#40] }

/-- Three engine turns and accesses between them: WR KEY, a dropped CMD write, RD STATUS. -/
def between : List Event :=
  [.engineTurn, .access 0xC40000FFFF#40, .engineTurn, .access 0xC800000002#40, .engineTurn, .access 0x4C00000000#40]

/-- A command word whose MODE is 0b11 (P3). -/
def commandWordOfMode3 : Word := 0x00000003#32

theorem witness_DecodeOfEncodeIsTheInstruction :
    (Instr.busErrAlignOdd true 0x1F#5 0xFFFFFFFF#32).wellFormed = true ∧
    (Instr.busErrAlign2 true 0x1E#5 0xFFFFFFFF#32).wellFormed = true := by decide

theorem witness_EveryDescriptorEncodesOneInstruction :
    (Instr.busErrAlign2 true 0x0A#5 1#32).wellFormed = true ∧ encode (.busErrAlign2 true 0x0A#5 1#32) = 0xCA00000001#40 := by
  decide

theorem witness_ByteFourIdentifiesEveryLegalAccess :
    [0x4000000000#40, 0x4400000000#40, 0x4800000000#40, 0x4C00000000#40, 0x5000000000#40, 0x5400000000#40,
      0x5800000000#40, 0x5C00000000#40, 0xC000000000#40, 0xC400000000#40, 0xC8FFFFFFFF#40, 0xCC00000000#40,
      0xD000000000#40, 0xD400000000#40, 0xD800000000#40, 0xDC00000000#40].map (fun ht => byteOfDescriptor ht 4) =
    [0x40#8, 0x44#8, 0x48#8, 0x4C#8, 0x50#8, 0x54#8, 0x58#8, 0x5C#8,
      0xC0#8, 0xC4#8, 0xC8#8, 0xCC#8, 0xD0#8, 0xD4#8, 0xD8#8, 0xDC#8] := by decide

theorem witness_StatusIsClearedOnlyByACommandOrReset :
    (∃ t, step recommanded = .next t ∧ recommanded.done = true ∧ t.done = false) ∧
    (∃ t, step { rejected with events := [.reset none] } = .next t ∧ rejected.err ≠ .none ∧ t.err = .none) :=
  ⟨⟨_, rfl, rfl, rfl⟩, ⟨_, rfl, by decide, rfl⟩⟩

theorem witness_OrdinaryAccessesAreIdempotent :
    isCmdWrite (.wrKey 0xAA55#32) = false ∧ raisesBusError (.wrKey 0xAA55#32) = false := by decide

theorem witness_ValidCommandIsAccepted :
    loaded.busy = false ∧ (Instr.wrKey 1#32 = .wrDataIn 1#32 ∨ Instr.wrKey 1#32 = .wrKey 1#32) ∧
      (Instr.wrDataIn 1#32 = .wrDataIn 1#32 ∨ Instr.wrDataIn 1#32 = .wrKey 1#32) := by decide

theorem witness_InvalidModeCompletesAtOnce : loaded.busy = false ∧ running.busy = true := by decide

theorem witness_CmdWriteWhileBusyIsDropped : isCmdWrite (.invalidMode11 0#30) = true ∧ running.busy = true := by decide

theorem witness_WrongSizeRaisesBusError : loaded.faultMark = none := by decide

theorem witness_MisalignedAccessRaisesBusError :
    loaded.faultMark = none ∧ (0x1F#5).getLsbD 0 = true ∧ (0x1E#5).getLsbD 0 = false ∧ (0x1E#5).getLsbD 1 = true := by decide

theorem witness_StandingFaultMarkIsKept :
    raisesBusError (.busErrSize16 false 0x02#5 0#32) = true ∧ marked.faultMark = some ⟨true, .bits8, 0x08#5⟩ := by decide

theorem witness_FaultMarkIsNeverCleared :
    (∃ t, misused.faultMark = none ∧ misused.events = [.access 0x8800000001#40] ∧
      raisesBusError (decodeDescriptor 0x8800000001#40) = true ∧ step misused = .next t) ∧
    (∃ t, marked.faultMark = some ⟨true, .bits8, 0x08#5⟩ ∧ step { marked with events := [.reset none] } = .next t) ∧
    (marked.faultMark = some ⟨true, .bits8, 0x08#5⟩ ∧ ∀ during es, marked.events ≠ .reset during :: es) :=
  ⟨⟨_, rfl, rfl, by decide, rfl⟩, ⟨_, rfl, rfl⟩, rfl, fun _ _ h => by cases h⟩

theorem witness_NeverWrittenErrCodeIsStuck :
    ({ loaded with err := .format } : State).faultMark = none ∧ ({ loaded with err := .reserved } : State).faultMark = none ∧
    ∀ during es, loaded.events ≠ .reset during :: es :=
  ⟨rfl, rfl, fun _ _ h => by cases h⟩

theorem witness_StepRunsTheDecodedAccess : commanded.Live ∧ commanded.events = [.access 0xC800000001#40] := by decide

theorem witness_PlacedAccessRunsNext : loaded.Live ∧ decodeTableWord 40 0xC800000001 = some (.encrypt 0#30) := by decide

theorem witness_EngineStepPerformsOneRound :
    (turning.Live ∧ turning.busy = true ∧ turning.ctr.toNat = 0 ∧ turning.events = [.engineTurn]) ∧
    (({ turning with ctr := 2#3 } : State).ctr.toNat = 2 ∧ ({ turning with ctr := 3#3 } : State).ctr.toNat = 3 ∧
      ({ turning with dir := .decrypt, ctr := 3#3 } : State).Live) := by decide

theorem witness_EngineIsEnabledExactlyWhenBusy :
    (({ loaded with events := [.engineTurn] } : State).Live ∧ loaded.busy = false) ∧
    (turning.Live ∧ turning.busy = true ∧ turning.ctr.toNat ≤ 3 ∧ turning.events = [.engineTurn]) := by decide

theorem witness_EngineStopsOnAnIllegalCounter :
    let s : State := { turning with ctr := 4#3 }
    s.Live ∧ s.busy = true ∧ 3 < s.ctr.toNat ∧ s.events = [.engineTurn] := by decide

theorem witness_NothingPendingIsTheEnginesTurn : running.events = [] := by decide

theorem witness_ResetCycleSetsEveryElement :
    ({ running with events := [.reset none, .engineTurn] } : State).events = .reset none :: [.engineTurn] := by decide

theorem witness_ResetCycleKeepsTheFaultMark :
    ({ marked with events := [.reset none] } : State).events = .reset none :: [] := by decide

theorem witness_AfterResetRegistersReadZero :
    let i : Instr := .rdStatus 0#32
    i = .rdDataIn 0#32 ∨ i = .rdKey 0#32 ∨ i = .rdCmd 0#32 ∨ i = .rdStatus 0#32 ∨ i = .rdResult 0#32 := by decide

theorem witness_AccessDuringResetIsRefused :
    ({ loaded with events := [.reset (some 0x4C00000000#40)] } : State).events = .reset (some 0x4C00000000#40) :: [] := by
  decide

theorem witness_StepKeepsTheStatusInvariant : running.Inv ∧ ∃ t, step turning = .next t ∧ turning.Inv :=
  ⟨by decide, _, rfl, by decide⟩

theorem witness_StepKeepsResultAgreement :
    recommanded.Inv ∧ recommanded.ResultAgrees ∧ rejected.ResultAgrees ∧ ∃ t, step recommanded = .next t :=
  ⟨by decide, by decide, by decide, _, rfl⟩

/-- The state after two engine steps of the first command after reset. -/
theorem witness_ReachableStatesMeetR36 : ∃ t, Reachable t ∧ t.busy = true ∧ t.ctr = 2#3 :=
  ⟨_, ⟨3, [.access 0xC800000001#40], rfl⟩, rfl, rfl⟩

theorem witness_UnmarkedStatesHaveAStep :
    (turning.Inv ∧ turning.faultMark = none ∧ (∀ ht es, turning.events ≠ .reset (some ht) :: es) ∧
      ∀ ht es, turning.events ≠ .access ht :: es) ∧
    (commanded.Inv ∧ commanded.faultMark = none ∧ (∀ ht es, commanded.events ≠ .reset (some ht) :: es) ∧
      raisesBusError (decodeDescriptor 0xC800000001#40) = false ∧
      startsCipher (decodeDescriptor 0xC800000001#40) = true) :=
  ⟨⟨by decide, rfl, fun _ _ h => by (cases h), fun _ _ h => by (cases h)⟩,
    by decide, rfl, fun _ _ h => by (cases h), by decide, by decide⟩

theorem witness_BusyIsWrittenOnlyAsR27Says :
    (commanded.events = .access 0xC800000001#40 :: [] ∧ commanded.busy = false ∧ ∃ t, step commanded = .next t ∧ t.busy = true) ∧
    (turning.events = .engineTurn :: [] ∧ turning.busy = true ∧
      ∃ t, step { turning with ctr := 3#3 } = .next t ∧ t.busy = false) :=
  ⟨⟨rfl, rfl, _, rfl, rfl⟩, rfl, rfl, _, rfl, rfl⟩

theorem witness_ResultIsWrittenOnlyAtCompletion :
    (∃ t, step { turning with ctr := 3#3 } = .next t ∧ t.result ≠ turning.result) ∧
    (∃ t, step { decrypted with events := [.access 0xC800000003#40] } = .next t ∧ t.result ≠ decrypted.result) :=
  ⟨⟨_, rfl, by decide⟩, _, rfl, by decide⟩

theorem witness_CommandInFlightKeepsItsSnapshot :
    running.busy = true ∧ ∃ t, step { running with events := [.access 0xC40000FFFF#40] } = .next t ∧ t.busy = true :=
  ⟨rfl, _, rfl, rfl⟩

theorem witness_RoundIsUndoneOnSwappedHalves : feistelRound (0x12#8, 0x34#8) 0xAB#8 = (0x34#8, 0xE7#8) := by decide

theorem witness_RoundFunctionProperties : 0xAC#8 ^^^ 0xAA#8 = 0x06#8 ^^^ 0x00#8 := by decide

theorem witness_EqualSubkeysHideTheLiteralReading :
    (0x0000#16).extractLsb' 8 8 = (0x0000#16).extractLsb' 0 8 ∧
    (0x5A5A#16).extractLsb' 8 8 = (0x5A5A#16).extractLsb' 0 8 := by decide

theorem witness_CommandCompletesAfterFourEngineSteps :
    loaded.busy = false ∧ loaded.Live ∧ between.all Event.undisturbing = true ∧ engineTurns between = 3 := by decide

theorem witness_EncryptRoundStates :
    loaded.busy = false ∧ loaded.Live ∧ between.all Event.undisturbing = true ∧ engineTurns between = 3 ∧
    engineTurns [] = 0 := by decide

theorem witness_DecryptRoundStates :
    let s : State := { loaded with dataIn := 0x9175#16 }
    s.busy = false ∧ s.Live ∧ s.dataIn = enc 0xACAA#16 s.key ∧ between.all Event.undisturbing = true ∧
    engineTurns between + 1 = 4 ∧ engineTurns [] + 1 = 1 := by decide

theorem witness_CommandFinishesWithinItsRemainingRounds :
    running.Inv ∧ running.faultMark = none ∧ running.busy = true ∧ running.events = [] := by decide

/-- `decrypted` and a state with other stale round state, both with an ENCRYPT next. -/
theorem witness_StaleRoundStateIsNotObservable :
    HostEquivalent recommanded { recommanded with l := 0xFF#8, sk1 := 0x00#8, ctr := 0#3, dir := .encrypt } ∧
    recommanded ≠ { recommanded with l := 0xFF#8, sk1 := 0x00#8, ctr := 0#3, dir := .encrypt } := by decide

theorem witness_BusAccessBecomesItsDescriptor :
    Config.BaseAligned 0x40000000 ∧ 0x40000000 ≤ 0x4000001F ∧ 0x4000001F < 0x40000000 + 32 ∧
    ¬ (0x40000000 ≤ 0x40000020 ∧ 0x40000020 < 0x40000000 + 32) := by decide

theorem witness_ParseAndFormatAreInverse : parse16 (format16 0xACAA#16) = some 0xACAA#16 := by decide

theorem witness_FailingTransformMakesNoAccess :
    parse16 ['1', '2'] = none ∧ parse16 (format16 0xACAA#16) = some 0xACAA#16 ∧ parse16 (format16 0xAA55#16) = some 0xAA55#16 ∧
    ['f', 'o', 'o'] ≠ encryptMode ∧ ['f', 'o', 'o'] ≠ decryptMode := by decide

theorem witness_TransformContract :
    loaded.busy = false ∧ loaded.Live ∧ parse16 (format16 0xACAA#16) = some 0xACAA#16 ∧
    parse16 (format16 0xAA55#16) = some 0xAA55#16 ∧ 4 ≤ slowPolls.polls.sum ∧
    (adapterTransform true slowPolls (format16 0xACAA#16) (format16 0xAA55#16) encryptMode loaded).isSome = true := by decide

theorem witness_RecommendedUseGivesTheTransform :
    running.Inv ∧ running.faultMark = none ∧ 4 ≤ [0, 2, 2].sum ∧ 4 ≤ slowPolls.polls.sum ∧ slowPolls.polls ≠ [] ∧
    (commandWordOfMode3.extractLsb' 0 2 = 0b11#2) ∧
    (recommendedUse [0, 2, 2] slowPolls 0x00000001#32 0xACAA#16 0xAA55#16 running).map (fun a => a.1) =
      some (.value 0x00009175#32) ∧
    (recommendedUse [0, 2, 2] slowPolls commandWordOfMode3 0xACAA#16 0xAA55#16 running).map (fun a => a.1) =
      some (.error 0b10#2) := by decide

/-- The second list of accesses is for LATENCY = 4, the empty one for LATENCY = 0 and, with LATENCY = 4, for the cycle after the
accepting one. -/
theorem witness_ReferenceTiming :
    loaded.busy = false ∧ loaded.Live ∧
    [0x5000000000#40, 0xC800000002#40, 0x4C00000000#40].map (fun ht => raisesBusError (decodeDescriptor ht)) =
      [false, false, false] ∧
    isCmdWrite (decodeDescriptor 0x5000000000#40) = false ∧
    [some 0x5000000000#40, none, some 0x4C00000000#40, some 0xC800000002#40].length = Config.referenceLatency ∧
    ([] : List (Option Descriptor)).length = 0 ∧
    ([] : List (Option Descriptor)).length < Config.referenceLatency := by decide

theorem witness_InvalidAndDroppedWritesTakeNoEngineCycle :
    loaded.Live ∧ loaded.busy = false ∧ running.Live ∧ running.busy = true ∧ running.ctr.toNat ≤ 3 ∧
    isCmdWrite (decodeDescriptor 0xC800000003#40) = true := by decide

end Sys2Proof.Tests
end

section
/-!
PROOFS about single steps and the invariants of the state (spec/10_state.md R27 to R38).

`EventEffect` says once what an event that has a next state can do, and `step_effect` that a step does nothing else; the
invariants and the rules about who writes BUSY, RESULT and the snapshot are case splits over it. The non-interference
statement (R38) is a relation between the two outcomes, carried from the shared operations to `exec`, `serve` and `step`.
-/

namespace Sys2Proof.StateProofs

open Sys2Proof Sys2Proof.Machine

/-! ### What an access, an event and a step can do -/

/-- From `s` to `t` only DATA_IN, KEY, the fault mark, the shown answer and the pending events may differ. -/
structure KeepsCommand (s t : State) : Prop where
  result : t.result = s.result
  busy : t.busy = s.busy
  done : t.done = s.done
  err : t.err = s.err
  l : t.l = s.l
  r : t.r = s.r
  sk1 : t.sk1 = s.sk1
  sk2 : t.sk2 = s.sk2
  dir : t.dir = s.dir
  ctr : t.ctr = s.ctr

theorem readReply_keepsCommand {w : Word} {s t : State} (h : readReply w s = .next t) : KeepsCommand s t := by
  cases readReply_next h
  constructor <;> rfl

theorem writeReply_keepsCommand {s t : State} (h : writeReply s = .next t) : KeepsCommand s t := by
  cases writeReply_next h
  constructor <;> rfl

theorem execWrDataIn_keepsCommand {w : Word} {s t : State} (h : execWrDataIn w s = .next t) : KeepsCommand s t := by
  cases writeReply_next h
  constructor <;> rfl

theorem execWrKey_keepsCommand {w : Word} {s t : State} (h : execWrKey w s = .next t) : KeepsCommand s t := by
  cases writeReply_next h
  constructor <;> rfl

theorem raiseBusError_keepsCommand {e : BusError} {s t : State} (h : raiseBusError e s = .next t) :
    KeepsCommand s t := by
  cases raiseBusError_next h
  constructor <;> rfl

theorem isCmdWrite_of_startsCipher {i : Instr} (h : startsCipher i = true) : isCmdWrite i = true := by
  cases i with
  | encrypt _ | decrypt _ => rfl
  | _ => cases h

/-- What one event can do where it has a next state (R62): a reset cycle; an access that starts or ends no command; an
accepted ENCRYPT or DECRYPT; an accepted invalid mode; the turn of an idle engine; a round; the fourth round. -/
inductive EventEffect (s : State) : Event → State → Prop where
  | reset : EventEffect s (.reset none) (resetCycle s)
  | keep {ht : Descriptor} {t : State} (hcmd : isCmdWrite (decodeDescriptor ht) = true → s.busy = true)
      (hkeep : KeepsCommand s t) : EventEffect s (.access ht) t
  | accept {ht : Descriptor} (d : Direction) (hstart : startsCipher (decodeDescriptor ht) = true)
      (hidle : s.busy = false) : EventEffect s (.access ht) ((acceptValid d s.clearOutcome).respond .okay)
  | reject {ht : Descriptor} (hcmd : isCmdWrite (decodeDescriptor ht) = true)
      (hstart : startsCipher (decodeDescriptor ht) = false) (hidle : s.busy = false) :
      EventEffect s (.access ht) ((raiseInvalidMode s.clearOutcome).respond .okay)
  | idleTurn (hidle : s.busy = false) : EventEffect s .engineTurn s
  | round (hbusy : s.busy = true) (hctr : s.ctr.toNat < 3) :
      EventEffect s .engineTurn (applyRound (s.ctr.toNat + 1) s)
  | complete (hbusy : s.busy = true) (hctr : s.ctr.toNat = 3) :
      EventEffect s .engineTurn (completeCommand (applyRound 4 s))

/-- A CMD write is dropped by a busy FTE, or its effect is made on an idle one. -/
theorem cmdWrite_dropped_or_accepted {f : State → State} {s t : State} (h : cmdWrite f s = .next t) :
    (s.busy = true ∧ KeepsCommand s t) ∨ (s.busy = false ∧ t = (f s.clearOutcome).respond .okay) :=
  (cmdWrite_next h).imp_left fun ⟨hb, ht⟩ => ⟨hb, writeReply_keepsCommand (by rw [ht]; rfl)⟩

theorem access_effect {ht : Descriptor} {s t : State} (h : exec (decodeDescriptor ht) s = .next t) :
    EventEffect s (.access ht) t := by
  cases hi : decodeDescriptor ht with
  | rdDataIn _ | rdKey _ | rdCmd _ | rdStatus _ | rdResult _ | rdRsvd14 _ | rdRsvd18 _ | rdRsvd1C _ =>
    rw [hi] at h
    exact .keep (by simp [hi, isCmdWrite]) (readReply_keepsCommand h)
  | wrStatus _ | wrResult _ | wrRsvd14 _ | wrRsvd18 _ | wrRsvd1C _ =>
    rw [hi] at h
    exact .keep (by simp [hi, isCmdWrite]) (writeReply_keepsCommand h)
  | wrDataIn _ =>
    rw [hi] at h
    exact .keep (by simp [hi, isCmdWrite]) (execWrDataIn_keepsCommand h)
  | wrKey _ =>
    rw [hi] at h
    exact .keep (by simp [hi, isCmdWrite]) (execWrKey_keepsCommand h)
  | busErrSize8 _ _ _ | busErrSize16 _ _ _ | busErrSizeOther _ _ _ | busErrAlignOdd _ _ _ | busErrAlign2 _ _ _ =>
    rw [hi] at h
    exact .keep (by simp [hi, isCmdWrite]) (raiseBusError_keepsCommand h)
  | encrypt _ | decrypt _ =>
    rw [hi] at h
    obtain ⟨hbusy, hkeep⟩ | ⟨hidle, rfl⟩ := cmdWrite_dropped_or_accepted h
    · exact .keep (fun _ => hbusy) hkeep
    · exact .accept _ (by rw [hi]; rfl) hidle
  | invalidMode00 _ | invalidMode11 _ =>
    rw [hi] at h
    obtain ⟨hbusy, hkeep⟩ | ⟨hidle, rfl⟩ := cmdWrite_dropped_or_accepted h
    · exact .keep (fun _ => hbusy) hkeep
    · exact .reject (by rw [hi]; rfl) (by rw [hi]; rfl) hidle

theorem serve_effect {e : Event} {s t : State} (h : serve e s = .next t) : EventEffect s e t := by
  obtain ⟨rfl, rfl⟩ | ⟨ht, rfl, -, hexec⟩ | ⟨rfl, -, hturn⟩ := serve_next h
  · exact .reset
  · exact access_effect hexec
  · obtain ⟨hidle, rfl⟩ | ⟨hbusy, hround⟩ := engineTurn_next hturn
    · exact .idleTurn hidle
    · obtain ⟨hctr, rfl⟩ | ⟨hctr, rfl⟩ := engineRound_next hround
      · exact .round hbusy hctr
      · exact .complete hbusy hctr

/-- A step is the effect of the next event on the state with that event taken off. -/
theorem step_effect {s t : State} (h : step s = .next t) :
    EventEffect (s.withEvents (nextEvent s.events).2) (nextEvent s.events).1 t :=
  serve_effect h

/-- An event other than the engine's turn comes next only where it is pending. -/
theorem events_eq_cons_of_nextEvent {es : List Event} {e : Event} (h : (nextEvent es).1 = e)
    (hne : e ≠ .engineTurn) : ∃ es', es = e :: es' := by
  cases es with
  | nil => exact absurd h.symm hne
  | cons e' es' => exact ⟨es', congrArg (· :: es') h⟩

/-! ### Steps that stop, and reset -/

@[simp] theorem stopReason_withEvents (s : State) (es : List Event) :
    stopReason (s.withEvents es) = stopReason s := rfl

theorem stopReason_of_errNeverWritten {s : State} (hm : s.faultMark = none)
    (he : s.err = .format ∨ s.err = .reserved) : stopReason s = some (.errCodeNeverWritten s.err) := by
  unfold stopReason
  obtain he | he := he <;> rw [hm, he]

theorem serve_access_of_live {s : State} (h : s.Live) (ht : Descriptor) :
    serve (.access ht) s = exec (decodeDescriptor ht) s := by
  simp only [serve, h]

theorem serve_engineTurn_of_live {s : State} (h : s.Live) : serve .engineTurn s = engineTurn s := by
  simp only [serve, h]

theorem serve_of_stopReason {s : State} {e : Event} {f : Fault} (hf : stopReason s = some f)
    (he : ∀ during, e ≠ .reset during) : serve e s = .fault f := by
  cases e with
  | access ht => simp only [serve, hf]
  | engineTurn => simp only [serve, hf]
  | reset during => exact absurd rfl (he during)

theorem step_of_stopReason {s : State} {f : Fault} (hf : stopReason s = some f)
    (he : ∀ during es, s.events ≠ .reset during :: es) : step s = .fault f := by
  refine serve_of_stopReason (by rwa [stopReason_withEvents]) fun during h => ?_
  obtain ⟨es, hes⟩ := events_eq_cons_of_nextEvent h nofun
  exact he during es hes

theorem engineTurn_of_ctr_gt {s : State} (hb : s.busy = true) (hc : 3 < s.ctr.toNat) :
    engineTurn s = .fault (.roundCounterOutOfRange s.ctr) := by
  rw [engineTurn, if_pos hb, engineRound, if_neg (by omega)]

/-- Settles O20: such a state has a stop reason, and only a reset cycle is served where one stands. -/
theorem neverWrittenErrCodeIsStuck : Obligations.NeverWrittenErrCodeIsStuck :=
  fun _ hm he hev => step_of_stopReason (stopReason_of_errNeverWritten hm he) hev

/-- Settles O25: a live state's turn is the engine's round, which has no case for CTR above 3. -/
theorem engineStopsOnAnIllegalCounter : Obligations.EngineStopsOnAnIllegalCounter := by
  intro s es hlive hb hc hev
  rw [step_cons hev, serve_engineTurn_of_live (s := s.withEvents es) hlive]
  exact engineTurn_of_ctr_gt hb hc

/-- Settles O27: the next state is `resetCycle`, whose fields are the constants of R41. -/
theorem resetCycleSetsEveryElement : Obligations.ResetCycleSetsEveryElement := by
  intro s es hev
  refine ⟨resetCycle (s.withEvents es), step_cons hev, ?_⟩
  simp [statusWord, ErrCode.bits]

/-! ### The invariants of R36 and R30 -/

/-- The invariants speak only of fields that `KeepsCommand` keeps. -/
theorem KeepsCommand.inv {s t : State} (h : KeepsCommand s t) (hs : s.Inv) : t.Inv := by
  unfold State.Inv
  rw [h.busy, h.done, h.err, h.ctr]
  exact hs

theorem KeepsCommand.resultAgrees {s t : State} (h : KeepsCommand s t) (hs : s.ResultAgrees) : t.ResultAgrees := by
  unfold State.ResultAgrees
  rw [h.result, h.done, h.err, h.l, h.r, h.dir, h.ctr]
  exact hs

theorem EventEffect.inv {e : Event} {s t : State} (h : EventEffect s e t) (hs : s.Inv) : t.Inv := by
  have ⟨hbusy_imp, _, _, _, hctr_le⟩ := hs
  cases h with
  | reset => simp [State.Inv]
  | keep _ hkeep => exact hkeep.inv hs
  | accept _ _ _ => simp [State.Inv, acceptValid]
  | reject _ _ hidle => simp [State.Inv, hidle, hctr_le]
  | idleTurn _ => exact hs
  | round hbusy hctr =>
    obtain ⟨-, hdone, herr⟩ := hbusy_imp hbusy
    simp [State.Inv, hdone, herr]
    omega
  | complete hbusy _ =>
    obtain ⟨-, -, herr⟩ := hbusy_imp hbusy
    simp [State.Inv, herr]

theorem EventEffect.resultAgrees {e : Event} {s t : State} (h : EventEffect s e t) (hinv : s.Inv)
    (hs : s.ResultAgrees) : t.ResultAgrees := by
  obtain ⟨hbusy_imp, -⟩ := hinv
  cases h with
  | reset => simp [State.ResultAgrees]
  | keep _ hkeep => exact hkeep.resultAgrees hs
  | accept _ _ _ => simp [State.ResultAgrees, acceptValid]
  | reject _ _ _ => simp [State.ResultAgrees]
  | idleTurn _ => exact hs
  | round hbusy _ =>
    obtain ⟨-, hdone, herr⟩ := hbusy_imp hbusy
    simp [State.ResultAgrees, hdone, herr]
  | complete hbusy _ =>
    obtain ⟨-, -, herr⟩ := hbusy_imp hbusy
    simp [State.ResultAgrees, herr]

theorem inv_reset : State.reset.Inv := by decide

/-- Settles O31: a fixed state, evaluated. -/
theorem resetMeetsTheInvariants : Obligations.ResetMeetsTheInvariants :=
  ⟨inv_reset, by decide, rfl⟩

/-- Settles O32: each effect of an event keeps the invariants, which do not speak of the pending events. -/
theorem stepKeepsTheStatusInvariant : Obligations.StepKeepsTheStatusInvariant :=
  fun _ _ hs h => (step_effect h).inv hs

/-- Settles O33: the fourth round writes RESULT with the state it leaves, an invalid mode writes the sentinel, and a
command that is accepted or in flight has DONE = 0 and ERR = NONE. -/
theorem stepKeepsResultAgreement : Obligations.StepKeepsResultAgreement :=
  fun _ _ hinv hs h => (step_effect h).resultAgrees hinv hs

/-- What every step keeps, every run keeps. -/
theorem run_keeps {P : State → Prop} (hstep : ∀ s t, P s → step s = .next t → P t) (n : Nat) :
    ∀ {s t : State}, P s → Sys2Proof.core.run n s = .next t → P t := by
  induction n with
  | zero =>
    intro s t hs h
    cases h
    exact hs
  | succ n ih =>
    intro s t hs h
    obtain ⟨u, hu, hrun⟩ := run_succ_next h
    exact ih (hstep s u hs hu) hrun

/-- O32 along the runs that start at reset. -/
theorem inv_of_reachable {t : State} : Reachable t → t.Inv :=
  fun ⟨n, es, h⟩ => run_keeps stepKeepsTheStatusInvariant n (s := State.reset.withEvents es) inv_reset h

/-- R34's range of CTR while BUSY = 1, value by value. -/
theorem ctr_values_of_le_three : ∀ c : BitVec 3, c.toNat ≤ 3 → c = 0#3 ∨ c = 1#3 ∨ c = 2#3 ∨ c = 3#3 := by
  decide

/-- Settles O34: the invariant of O32 holds at reset, so along every run from it. -/
theorem reachableStatesMeetR36 : Obligations.ReachableStatesMeetR36 := by
  intro t ht
  obtain ⟨hbusy, hdone, herr, ⟨hformat, hreserved⟩, -⟩ := inv_of_reachable ht
  exact ⟨fun hb => (hbusy hb).imp_left (ctr_values_of_le_three t.ctr), hdone, herr, hformat, hreserved⟩

/-! ### Who writes BUSY, RESULT and the snapshot -/

theorem EventEffect.busy_of_idle {e : Event} {s t : State} (h : EventEffect s e t) (hidle : s.busy = false) :
    t.busy = true ↔ ∃ ht, e = .access ht ∧ startsCipher (decodeDescriptor ht) = true := by
  cases h with
  | reset => simp
  | keep hcmd hkeep =>
    have hstart : startsCipher (decodeDescriptor _) ≠ true := fun hs => by
      simpa [hidle] using hcmd (isCmdWrite_of_startsCipher hs)
    simp [hkeep.busy, hidle, hstart]
  | accept _ hstart _ => simp [acceptValid, hstart]
  | reject _ hstart _ => simp [hidle, hstart]
  | idleTurn _ => simp [hidle]
  | round hbusy _ => simp [hidle] at hbusy
  | complete hbusy _ => simp [hidle] at hbusy

theorem EventEffect.idle_of_busy {e : Event} {s t : State} (h : EventEffect s e t) (hbusy : s.busy = true) :
    t.busy = false ↔ e = .reset none ∨ (e = .engineTurn ∧ s.ctr = 3#3) := by
  cases h with
  | reset => simp
  | keep _ hkeep => simp [hkeep.busy, hbusy]
  | accept _ _ hidle => simp [hbusy] at hidle
  | reject _ _ hidle => simp [hbusy] at hidle
  | idleTurn hidle => simp [hbusy] at hidle
  | round _ hctr =>
    have hne : s.ctr ≠ 3#3 := fun hc => by simp [hc] at hctr
    simp [hbusy, hne]
  | complete _ hctr =>
    have hc : s.ctr = 3#3 := BitVec.eq_of_toNat_eq hctr
    simp [hc]

/-- Settles O37: only an accepted cipher command sets BUSY, and only a reset and the fourth round clear it. -/
theorem busyIsWrittenOnlyAsR27Says : Obligations.BusyIsWrittenOnlyAsR27Says := by
  intro s t e es hev h
  rw [step_cons hev] at h
  have heffect : EventEffect (s.withEvents es) e t := serve_effect h
  exact ⟨heffect.busy_of_idle, heffect.idle_of_busy⟩

/-- Settles O38: of the effects, only a reset, an accepted invalid mode and the fourth round write RESULT. -/
theorem resultIsWrittenOnlyAtCompletion : Obligations.ResultIsWrittenOnlyAtCompletion := by
  intro s t h hne
  have heffect := step_effect h
  generalize he : (nextEvent s.events).1 = e at heffect
  cases heffect with
  | reset => exact .inl (events_eq_cons_of_nextEvent he nofun)
  | keep _ hkeep => exact absurd hkeep.result hne
  | accept _ _ _ => exact absurd rfl hne
  | reject hcmd hstart hidle =>
    obtain ⟨es, hes⟩ := events_eq_cons_of_nextEvent he nofun
    exact .inr (.inr ⟨hidle, rfl, rfl, _, es, hes, hcmd, hstart⟩)
  | idleTurn _ => exact absurd rfl hne
  | round _ _ => exact absurd rfl hne
  | complete hbusy _ => exact .inr (.inl ⟨hbusy, rfl, rfl⟩)

/-- Settles O39: from busy to busy a step is an access that keeps the command, or one of the first three rounds. -/
theorem commandInFlightKeepsItsSnapshot : Obligations.CommandInFlightKeepsItsSnapshot := by
  intro s t hs ht h
  have heffect := step_effect h
  generalize he : (nextEvent s.events).1 = e at heffect
  cases heffect with
  | reset => cases ht
  | keep _ hkeep =>
    exact ⟨hkeep.sk1, hkeep.sk2, hkeep.dir, hkeep.result, fun _ => ⟨hkeep.l, hkeep.r, hkeep.ctr⟩⟩
  | accept _ _ hidle => simp [hs] at hidle
  | reject _ _ hidle => simp [hs] at hidle
  | idleTurn hidle => simp [hs] at hidle
  | round _ _ =>
    refine ⟨rfl, rfl, rfl, rfl, fun ⟨ht, es, hev⟩ => ?_⟩
    rw [hev] at he
    cases he
  | complete _ _ => cases ht

/-! ### Non-interference (R38) -/

/-- The first outcome is matched by the second: next states that the host cannot tell apart, or the same stop. -/
def MatchedBy (x y : Host.Outcome State Fault Refusal) : Prop :=
  (∀ s', x = .next s' → ∃ t', y = .next t' ∧ HostEquivalent s' t') ∧
  (∀ f, x = .fault f → y = .fault f) ∧
  (∀ f, x = .refused f → y = .refused f)

theorem hostEquivalent_refl (s : State) : HostEquivalent s s := by simp [HostEquivalent]

theorem matchedBy_refl (x : Host.Outcome State Fault Refusal) : MatchedBy x x :=
  ⟨fun s' h => ⟨s', h, hostEquivalent_refl s'⟩, fun _ h => h, fun _ h => h⟩

theorem matchedBy_next {s t : State} (h : HostEquivalent s t) : MatchedBy (.next s) (.next t) :=
  ⟨fun _ hs => ⟨t, rfl, by cases hs; exact h⟩, nofun, nofun⟩

/-- While a command is in flight nothing is left to differ. -/
theorem eq_of_hostEquivalent_of_busy {s t : State} (h : HostEquivalent s t) (hbusy : s.busy = true) : s = t := by
  obtain ⟨hdata, hkey, hresult, hbusy', hdone, herr, hmark, hresp, hevents, hround⟩ := h
  obtain ⟨hl, hr, hsk1, hsk2, hdir, hctr⟩ := hround hbusy
  cases s
  cases t
  simp_all only

section Operations

variable {s t : State}

theorem hostEquivalent_withEvents (h : HostEquivalent s t) (es : List Event) :
    HostEquivalent (s.withEvents es) (t.withEvents es) := by
  simp_all [HostEquivalent]

theorem hostEquivalent_respond (h : HostEquivalent s t) (a : Response) :
    HostEquivalent (s.respond a) (t.respond a) := by
  simp_all [HostEquivalent]

theorem hostEquivalent_setDataIn (h : HostEquivalent s t) (v : Block) :
    HostEquivalent (s.setDataIn v) (t.setDataIn v) := by
  simp_all [HostEquivalent]

theorem hostEquivalent_setKey (h : HostEquivalent s t) (v : Block) :
    HostEquivalent (s.setKey v) (t.setKey v) := by
  simp_all [HostEquivalent]

theorem hostEquivalent_mark (h : HostEquivalent s t) (e : BusError) :
    HostEquivalent (s.mark e) (t.mark e) := by
  simp_all [HostEquivalent]

theorem hostEquivalent_resetCycle (h : HostEquivalent s t) : HostEquivalent (resetCycle s) (resetCycle t) := by
  simp_all [HostEquivalent]

/-- Acceptance loads the whole round state from DATA_IN and KEY, so nothing stale is left. -/
theorem hostEquivalent_acceptValid (h : HostEquivalent s t) (d : Direction) :
    HostEquivalent (acceptValid d s.clearOutcome) (acceptValid d t.clearOutcome) := by
  simp_all [HostEquivalent, acceptValid]

theorem hostEquivalent_raiseInvalidMode (h : HostEquivalent s t) :
    HostEquivalent (raiseInvalidMode s.clearOutcome) (raiseInvalidMode t.clearOutcome) := by
  simp_all [HostEquivalent]

theorem matchedBy_readReply (h : HostEquivalent s t) {v w : Word} (hvw : v = w) :
    MatchedBy (readReply v s) (readReply w t) := by
  subst hvw
  exact matchedBy_next (hostEquivalent_respond h _)

theorem matchedBy_writeReply (h : HostEquivalent s t) : MatchedBy (writeReply s) (writeReply t) :=
  matchedBy_next (hostEquivalent_respond h _)

theorem matchedBy_raiseBusError (h : HostEquivalent s t) (e : BusError) :
    MatchedBy (raiseBusError e s) (raiseBusError e t) :=
  matchedBy_next (hostEquivalent_respond (hostEquivalent_mark h e) _)

theorem matchedBy_cmdWrite (h : HostEquivalent s t) {f : State → State}
    (hf : HostEquivalent (f s.clearOutcome) (f t.clearOutcome)) : MatchedBy (cmdWrite f s) (cmdWrite f t) := by
  have ⟨_, _, _, hbusy, _⟩ := h
  unfold cmdWrite
  rw [← hbusy]
  split
  · exact matchedBy_writeReply h
  · exact matchedBy_writeReply hf

theorem statusWord_eq_of_hostEquivalent (h : HostEquivalent s t) : statusWord s = statusWord t := by
  obtain ⟨-, -, -, hbusy, hdone, herr, -⟩ := h
  rw [statusWord, statusWord, hbusy, hdone, herr]

theorem stopReason_eq_of_hostEquivalent (h : HostEquivalent s t) : stopReason s = stopReason t := by
  obtain ⟨-, -, -, -, -, herr, hmark, -⟩ := h
  rw [stopReason, stopReason, herr, hmark]

theorem matchedBy_exec (h : HostEquivalent s t) (i : Instr) : MatchedBy (exec i s) (exec i t) := by
  have ⟨hdata, hkey, hresult, _⟩ := h
  cases i with
  | rdDataIn _ => exact matchedBy_readReply h (congrArg zext32 hdata)
  | rdKey _ => exact matchedBy_readReply h (congrArg zext32 hkey)
  | rdStatus _ => exact matchedBy_readReply h (statusWord_eq_of_hostEquivalent h)
  | rdResult _ => exact matchedBy_readReply h (congrArg zext32 hresult)
  | rdCmd _ | rdRsvd14 _ | rdRsvd18 _ | rdRsvd1C _ => exact matchedBy_readReply h rfl
  | wrDataIn _ => exact matchedBy_writeReply (hostEquivalent_setDataIn h _)
  | wrKey _ => exact matchedBy_writeReply (hostEquivalent_setKey h _)
  | wrStatus _ | wrResult _ | wrRsvd14 _ | wrRsvd18 _ | wrRsvd1C _ => exact matchedBy_writeReply h
  | encrypt _ | decrypt _ => exact matchedBy_cmdWrite h (hostEquivalent_acceptValid h _)
  | invalidMode00 _ | invalidMode11 _ => exact matchedBy_cmdWrite h (hostEquivalent_raiseInvalidMode h)
  | busErrSize8 _ _ _ | busErrSize16 _ _ _ | busErrSizeOther _ _ _ | busErrAlignOdd _ _ _ | busErrAlign2 _ _ _ =>
    exact matchedBy_raiseBusError h _

/-- The engine reads its state only where BUSY = 1, and there the two states are the same. -/
theorem matchedBy_engineTurn (h : HostEquivalent s t) : MatchedBy (engineTurn s) (engineTurn t) := by
  by_cases hbusy : s.busy = true
  · rw [eq_of_hostEquivalent_of_busy h hbusy]
    exact matchedBy_refl _
  · have ⟨_, _, _, hbusy_eq, _⟩ := h
    rw [engineTurn, engineTurn, ← hbusy_eq, if_neg hbusy, if_neg hbusy]
    exact matchedBy_next h

theorem matchedBy_serve_of_stopReason (h : HostEquivalent s t) {e : Event} {f : Fault} (hs : stopReason s = some f)
    (he : ∀ during, e ≠ .reset during) : MatchedBy (serve e s) (serve e t) := by
  have ht : stopReason t = some f := by rw [← stopReason_eq_of_hostEquivalent h, hs]
  rw [serve_of_stopReason hs he, serve_of_stopReason ht he]
  exact matchedBy_refl _

theorem matchedBy_serve (h : HostEquivalent s t) (e : Event) : MatchedBy (serve e s) (serve e t) := by
  have hstop := stopReason_eq_of_hostEquivalent h
  cases e with
  | reset during =>
    cases during with
    | none => exact matchedBy_next (hostEquivalent_resetCycle h)
    | some _ => exact matchedBy_refl _
  | access ht =>
    cases hs : stopReason s with
    | none =>
      rw [serve_access_of_live hs, serve_access_of_live (hstop.symm.trans hs)]
      exact matchedBy_exec h _
    | some f => exact matchedBy_serve_of_stopReason h hs (by simp)
  | engineTurn =>
    cases hs : stopReason s with
    | none =>
      rw [serve_engineTurn_of_live hs, serve_engineTurn_of_live (hstop.symm.trans hs)]
      exact matchedBy_engineTurn h
    | some f => exact matchedBy_serve_of_stopReason h hs (by simp)

end Operations

/-- Settles O48: the two states have the same next event, and every event is served alike in both. -/
theorem staleRoundStateIsNotObservable : Obligations.StaleRoundStateIsNotObservable := by
  intro s t h
  have ⟨_, _, _, _, _, _, _, _, hevents, _⟩ := h
  change MatchedBy (step s) (step t)
  rw [step_eq, step_eq, ← hevents]
  exact matchedBy_serve (hostEquivalent_withEvents h _) _

end Sys2Proof.StateProofs
end

section
/-!
PROOFS about accesses in the order of events (spec/20_memory.md): how a bus access becomes a descriptor (R50 to R57), which
event a step serves (R62, R63), that an ordinary access made twice is the access made once (R59), and that a command in
flight completes where nothing else is to come (R63).
-/

namespace Sys2Proof.MemoryProofs

open Sys2Proof Sys2Proof.Machine Sys2Proof.StateProofs

/-! ### Which event a step serves -/

theorem withEvents_of_events {s : State} {es : List Event} (h : s.events = es) : s.withEvents es = s := by
  rw [← h, withEvents_events]

theorem live_of_inv {s : State} (hinv : s.Inv) (hmark : s.faultMark = none) : s.Live := by
  obtain ⟨-, -, herr, -, -⟩ := hinv
  by_cases hnone : s.err = .none
  · exact stopReason_eq_none.2 ⟨hmark, .inl hnone⟩
  · exact stopReason_eq_none.2 ⟨hmark, .inr (herr hnone).2⟩

theorem step_access_of_live {s : State} {ht : Descriptor} {es : List Event} (hlive : s.Live)
    (hev : s.events = .access ht :: es) : step s = exec (decodeDescriptor ht) (s.withEvents es) := by
  rw [step_cons hev, serve_access_of_live (s := s.withEvents es) hlive]

/-- A table word decodes to its descriptor's instruction, however wide it is, where the bits that count fit. -/
theorem decodeTableWord_eq {nbits w : Nat} (h : w % 2 ^ nbits < 2 ^ 40) :
    decodeTableWord nbits w = some (decodeDescriptor (descriptorOfTableWord nbits w)) := by
  have hbytes := decodeBytes_bytesOfDescriptor (descriptorOfTableWord nbits w) []
  rw [List.append_nil] at hbytes
  rw [decodeTableWord, if_pos h, hbytes]

/-- Settles O26: the engine's turn is served on the same state, whether it is pending or nothing is. -/
theorem nothingPendingIsTheEnginesTurn : Obligations.NothingPendingIsTheEnginesTurn := by
  intro s hev
  calc step s = serve .engineTurn s := step_nil hev
    _ = serve .engineTurn ((s.withEvents [.engineTurn]).withEvents []) := by
      rw [withEvents_withEvents, withEvents_of_events hev]
    _ = step (s.withEvents [.engineTurn]) := (step_cons rfl).symm

/-- Settles O21: a live state serves an access by `exec` of what the decoder reads. -/
theorem stepRunsTheDecodedAccess : Obligations.StepRunsTheDecodedAccess :=
  fun _ _ _ hlive hev => step_access_of_live hlive hev

/-- Settles O22: the placed access is the first pending event, and taking it off gives the state back. -/
theorem placedAccessRunsNext : Obligations.PlacedAccessRunsNext := by
  intro s w i hlive hdecode
  rw [decodeTableWord_eq (Nat.mod_lt w (by decide))] at hdecode
  obtain rfl := Option.some.inj hdecode
  exact step_access_of_live (s := s.withFetchWord 40 w) hlive rfl

/-! ### Ordinary accesses (R59, R160) -/

/-- The access `i` takes `s` to `t`, takes `t` to itself, and leaves the command and the fault mark alone. -/
structure Repeats (i : Instr) (s t : State) : Prop where
  once : exec i s = .next t
  again : exec i t = .next t
  keeps : KeepsCommand s t
  faultMark : t.faultMark = s.faultMark

/-- A read changes only the shown answer, which no read depends on; an operand write stores a value that the state before
does not enter into. -/
theorem exec_repeats {i : Instr} (hcmd : isCmdWrite i = false) (hbus : raisesBusError i = false) (s : State) :
    ∃ t, Repeats i s t := by
  cases i with
  | rdDataIn _ | rdKey _ | rdCmd _ | rdStatus _ | rdResult _ | rdRsvd14 _ | rdRsvd18 _ | rdRsvd1C _ =>
    exact ⟨_, rfl, rfl, readReply_keepsCommand rfl, rfl⟩
  | wrStatus _ | wrResult _ | wrRsvd14 _ | wrRsvd18 _ | wrRsvd1C _ =>
    exact ⟨_, rfl, rfl, writeReply_keepsCommand rfl, rfl⟩
  | wrDataIn _ => exact ⟨_, rfl, rfl, execWrDataIn_keepsCommand rfl, rfl⟩
  | wrKey _ => exact ⟨_, rfl, rfl, execWrKey_keepsCommand rfl, rfl⟩
  | encrypt _ | decrypt _ | invalidMode00 _ | invalidMode11 _ => cases hcmd
  | busErrSize8 _ _ _ | busErrSize16 _ _ _ | busErrSizeOther _ _ _ | busErrAlignOdd _ _ _ | busErrAlign2 _ _ _ =>
    cases hbus

/-- Settles O12: every ordinary access repeats. -/
theorem ordinaryAccessesAreIdempotent : Obligations.OrdinaryAccessesAreIdempotent := by
  intro i s hcmd hbus
  obtain ⟨t, hrepeats⟩ := exec_repeats hcmd hbus s
  have hkeeps := hrepeats.keeps
  exact ⟨t, hrepeats.once, hrepeats.again, hkeeps.result, hkeeps.busy, hkeeps.done, hkeeps.err, hkeeps.l, hkeeps.r,
    hkeeps.sk1, hkeeps.sk2, hkeeps.dir, hkeeps.ctr, hrepeats.faultMark, exec_events hrepeats.once⟩

/-! ### A command in flight completes (R63, R143) -/

theorem engineTurn_of_ctr_lt {s : State} (hbusy : s.busy = true) (hctr : s.ctr.toNat < 3) :
    engineTurn s = .next (applyRound (s.ctr.toNat + 1) s) := by
  have hlast : s.ctr.toNat + 1 ≠ Config.rounds := by simp only [Config.rounds]; omega
  rw [engineTurn, if_pos hbusy, engineRound, if_pos (by omega), if_neg hlast]

theorem engineTurn_of_ctr_eq {s : State} (hbusy : s.busy = true) (hctr : s.ctr.toNat = 3) :
    engineTurn s = .next (completeCommand (applyRound 4 s)) := by
  have hlast : s.ctr.toNat + 1 = Config.rounds := by rw [hctr]; rfl
  rw [engineTurn, if_pos hbusy, engineRound, if_pos (by omega), if_pos hlast, hctr]

/-- A command is in flight and nothing else is to come: what O47 supposes. -/
structure Alone (s : State) : Prop where
  inv : s.Inv
  unmarked : s.faultMark = none
  busy : s.busy = true
  noEvents : s.events = []

theorem Alone.step_eq_engineTurn {s : State} (h : Alone s) : step s = engineTurn s := by
  rw [step_nil h.noEvents, serve_engineTurn_of_live (live_of_inv h.inv h.unmarked)]

theorem Alone.step_of_ctr_lt {s : State} (h : Alone s) (hctr : s.ctr.toNat < 3) :
    step s = .next (applyRound (s.ctr.toNat + 1) s) := by
  rw [h.step_eq_engineTurn, engineTurn_of_ctr_lt h.busy hctr]

theorem Alone.step_of_ctr_eq {s : State} (h : Alone s) (hctr : s.ctr.toNat = 3) :
    step s = .next (completeCommand (applyRound 4 s)) := by
  rw [h.step_eq_engineTurn, engineTurn_of_ctr_eq h.busy hctr]

theorem toNat_ctr_applyRound {j : Nat} (hj : j < 8) (s : State) : (applyRound j s).ctr.toNat = j := by
  rw [applyRound_ctr, BitVec.toNat_ofNat, Nat.mod_eq_of_lt hj]

/-- A round that is not the last leaves the command in flight and alone. -/
theorem Alone.after_round {s : State} (h : Alone s) (hctr : s.ctr.toNat < 3) :
    Alone (applyRound (s.ctr.toNat + 1) s) where
  inv := stepKeepsTheStatusInvariant s _ h.inv (h.step_of_ctr_lt hctr)
  unmarked := h.unmarked
  busy := h.busy
  noEvents := h.noEvents

/-- By induction on the rounds that are left before the last one. -/
theorem Alone.run_completes (n : Nat) : ∀ {s : State}, Alone s → s.ctr.toNat + n = 3 →
    ∃ t, Sys2Proof.core.run (n + 1) s = .next t ∧ t.busy = false ∧ t.done = true := by
  induction n with
  | zero =>
    intro s h hctr
    exact ⟨_, run_succ_of_next (h.step_of_ctr_eq hctr), rfl, rfl⟩
  | succ n ih =>
    intro s h hctr
    have hlt : s.ctr.toNat < 3 := by omega
    rw [run_succ_of_next (h.step_of_ctr_lt hlt)]
    refine ih (h.after_round hlt) ?_
    rw [toNat_ctr_applyRound (by omega)]
    omega

/-- Settles O47: the rounds that are left before the last one, and the last. -/
theorem commandFinishesWithinItsRemainingRounds : Obligations.CommandFinishesWithinItsRemainingRounds := by
  intro s hinv hmark hbusy hev
  have ⟨hbusy_imp, _⟩ := hinv
  obtain ⟨hctr, -, -⟩ := hbusy_imp hbusy
  have halone : Alone s := ⟨hinv, hmark, hbusy, hev⟩
  rw [show 4 - s.ctr.toNat = 3 - s.ctr.toNat + 1 by omega]
  exact halone.run_completes _ (by omega)

/-! ### The register window (R50 to R57) -/

theorem toNat_descSize (ht : Descriptor) : (descSize ht).toNat = ht.toNat / 2 ^ 37 % 4 := by
  rw [descSize, BitVec.extractLsb'_toNat, Nat.shiftRight_eq_div_pow]

theorem toNat_descOff (ht : Descriptor) : (descOff ht).toNat = ht.toNat / 2 ^ 32 % 32 := by
  rw [descOff, BitVec.extractLsb'_toNat, Nat.shiftRight_eq_div_pow]

theorem toNat_descWdata (ht : Descriptor) : (descWdata ht).toNat = ht.toNat % 2 ^ 32 := by
  rw [descWdata, BitVec.extractLsb'_toNat, Nat.shiftRight_zero]

/-- The low four bytes of a descriptor are the byte lanes of its data. -/
theorem byteOfDescriptor_eq_byteLane {n : Nat} (hn : n < 4) (ht : Descriptor) :
    byteOfDescriptor ht n = byteLane (descWdata ht) n := by
  apply BitVec.eq_of_getLsbD_eq
  intro i hi
  have hlane : 8 * n + i < 32 := by omega
  simp [byteOfDescriptor, byteLane, descWdata, BitVec.getLsbD_extractLsb', hlane]

theorem toNat_codeOfSize_sizeOfBytes (n : Nat) :
    (codeOfSize (sizeOfBytes n)).toNat = if n = 1 then 0 else if n = 2 then 1 else if n = 4 then 2 else 3 := by
  unfold sizeOfBytes
  split_ifs <;> rfl

theorem reachesWindow_iff {base addr : Nat} : reachesWindow base addr = true ↔ base ≤ addr ∧ addr < base + 32 := by
  rw [reachesWindow, Bool.and_eq_true, decide_eq_true_iff, decide_eq_true_iff, Config.windowBytes]

theorem toNat_windowOffset {base addr : Nat} (h : addr < base + 32) :
    (windowOffset base addr).toNat = addr - base := by
  rw [windowOffset, BitVec.toNat_ofNat, Nat.mod_eq_of_lt (by omega)]

/-- An offset is aligned as its address, since the base is a multiple of 32 (R51). -/
theorem sub_base_mod_four {base addr : Nat} (hbase : Config.BaseAligned base) (h : base ≤ addr) :
    (addr - base) % 4 = addr % 4 := by
  have : base % 32 = 0 := hbase
  omega

/-- An access that reaches the window has a descriptor, with these fields (R80). -/
theorem descriptorOfBus_of_reaches {base : Nat} {a : BusAccess} (h : reachesWindow base a.addr = true) :
    ∃ ht, descriptorOfBus base a = some ht ∧ descWe ht = a.write ∧ descSize ht = codeOfSize (sizeOfBytes a.bytes) ∧
      descOff ht = windowOffset base a.addr ∧ descWdata ht = if a.write then a.wdata else 0#32 :=
  ⟨_, if_pos h, descWe_encodeFields .., descSize_encodeFields .., descOff_encodeFields .., descWdata_encodeFields ..⟩

theorem descriptorOfBus_of_not_reaches {base : Nat} {a : BusAccess} (h : ¬ reachesWindow base a.addr = true) :
    descriptorOfBus base a = none :=
  if_neg h

theorem eventsOfBus_of_some {base : Nat} {a : BusAccess} {ht : Descriptor} (h : descriptorOfBus base a = some ht) :
    eventsOfBus base a = [.access ht] := by
  rw [eventsOfBus, h]

theorem eventsOfBus_of_none {base : Nat} {a : BusAccess} (h : descriptorOfBus base a = none) :
    eventsOfBus base a = [] := by
  rw [eventsOfBus, h]

/-- Settles O49: the numbers in a descriptor are its fields, and inside the window the fields are those of the access. -/
theorem busAccessBecomesItsDescriptor : Obligations.BusAccessBecomesItsDescriptor := by
  intro base a hbase
  refine ⟨fun hin => ?_, fun hout => ?_⟩
  · obtain ⟨ht, hsome, hwe, hsize, hoff, hdata⟩ := descriptorOfBus_of_reaches (reachesWindow_iff.2 hin)
    have hoffset : ht.toNat / 2 ^ 32 % 32 = a.addr - base := by
      rw [← toNat_descOff, hoff, toNat_windowOffset hin.2]
    refine ⟨ht, hsome, eventsOfBus_of_some hsome, hwe, ?size, hoffset, ?align, ?data, fun hwrite n hn => ?lanes⟩
    case size => rw [← toNat_descSize, hsize, toNat_codeOfSize_sizeOfBytes]
    case align => rw [← Nat.mod_mod_of_dvd _ (show 4 ∣ 32 by decide), hoffset, sub_base_mod_four hbase hin.1]
    case data =>
      rw [← toNat_descWdata, hdata]
      split <;> rfl
    case lanes => rw [byteOfDescriptor_eq_byteLane hn, hdata, if_pos hwrite]
  · have hnone := descriptorOfBus_of_not_reaches (mt reachesWindow_iff.1 hout)
    exact ⟨hnone, eventsOfBus_of_none hnone⟩

end Sys2Proof.MemoryProofs
end

section
/-!
PROOFS about the encoding (spec/30_encoding.md): decoding undoes encoding and encoding undoes decoding (R80 to
R82, R84, R85), one row of the opcode table covers each descriptor (R82), and byte 4 identifies every legal access (R83).
-/

namespace Sys2Proof.EncodingProofs

open Sys2Proof Sys2Proof.Machine Sys2Proof.Laws Sys2Proof.MemoryProofs

/-! ### Decoding what was encoded -/

theorem decodeDescriptor_encodeRead (off : BitVec 5) (w : Word) :
    decodeDescriptor (encodeRead off w) = decodeWordAccess false off w :=
  decodeDescriptor_encodeFields false .bits32 off w

theorem decodeDescriptor_encodeWrite (off : BitVec 5) (w : Word) :
    decodeDescriptor (encodeWrite off w) = decodeWordAccess true off w :=
  decodeDescriptor_encodeFields true .bits32 off w

theorem decodeDescriptor_encodeCommand (mode : BitVec 2) (rsvd : BitVec 30) :
    decodeDescriptor (encodeCommand mode rsvd) = decodeCommand (rsvd ++ mode) :=
  decodeDescriptor_encodeWrite 0x08#5 (rsvd ++ mode)

/-- The command that a command word selects depends on its MODE alone (R85). -/
theorem decodeCommand_commandWord (mode : BitVec 2) (rsvd : BitVec 30) :
    decodeCommand (rsvd ++ mode) =
      if mode = 0b01#2 then .encrypt rsvd
      else if mode = 0b10#2 then .decrypt rsvd
      else if mode = 0b00#2 then .invalidMode00 rsvd
      else .invalidMode11 rsvd := by
  simp only [decodeCommand, commandWord_mode, commandWord_rsvd]

/-! The three cases of a 32-bit access (R82, steps 2 and 3). -/

section WordAccess

variable {we : Bool} {off : BitVec 5} {w : Word}

theorem decodeWordAccess_of_odd (hodd : off.getLsbD 0 = true) :
    decodeWordAccess we off w = .busErrAlignOdd we off w :=
  if_pos hodd

theorem decodeWordAccess_of_two (heven : off.getLsbD 0 = false) (htwo : off.getLsbD 1 = true) :
    decodeWordAccess we off w = .busErrAlign2 we off w := by
  rw [decodeWordAccess, heven, htwo, if_neg Bool.false_ne_true, if_pos rfl]

theorem decodeWordAccess_of_aligned (heven : off.getLsbD 0 = false) (hfour : off.getLsbD 1 = false) :
    decodeWordAccess we off w =
      if we then decodeWrite (off.extractLsb' 2 3) w else decodeRead (off.extractLsb' 2 3) w := by
  rw [decodeWordAccess, heven, hfour, if_neg Bool.false_ne_true, if_neg Bool.false_ne_true]

end WordAccess

theorem wellFormed_busErrAlign2_iff {we : Bool} {off : BitVec 5} {w : Word} :
    (Instr.busErrAlign2 we off w).wellFormed = true ↔ off.getLsbD 0 = false ∧ off.getLsbD 1 = true := by
  rw [Instr.wellFormed, Bool.and_eq_true, Bool.not_eq_true']

/-- Settles O2: a legal row's offset is fixed, so its fields decode by evaluation, and a command by its MODE; a
misaligned row's offset has the low bits that `Instr.wellFormed` asks for. -/
theorem decodeOfEncodeIsTheInstruction : Obligations.DecodeOfEncodeIsTheInstruction := by
  intro i hwf
  cases i with
  | rdDataIn _ | rdKey _ | rdCmd _ | rdStatus _ | rdResult _ | rdRsvd14 _ | rdRsvd18 _ | rdRsvd1C _ =>
    exact decodeDescriptor_encodeRead _ _
  | wrDataIn _ | wrKey _ | wrStatus _ | wrResult _ | wrRsvd14 _ | wrRsvd18 _ | wrRsvd1C _ =>
    exact decodeDescriptor_encodeWrite _ _
  | encrypt _ | decrypt _ | invalidMode00 _ | invalidMode11 _ =>
    exact (decodeDescriptor_encodeCommand _ _).trans (decodeCommand_commandWord _ _)
  | busErrSize8 _ _ _ | busErrSize16 _ _ _ | busErrSizeOther _ _ _ => exact decodeDescriptor_encodeFields _ _ _ _
  | busErrAlignOdd _ _ _ => exact (decodeDescriptor_encodeFields _ _ _ _).trans (decodeWordAccess_of_odd hwf)
  | busErrAlign2 _ _ _ =>
    obtain ⟨heven, htwo⟩ := wellFormed_busErrAlign2_iff.1 hwf
    exact (decodeDescriptor_encodeFields _ _ _ _).trans (decodeWordAccess_of_two heven htwo)

/-! ### Encoding what was decoded -/

theorem reg_cases : ∀ reg : BitVec 3,
    reg = 0#3 ∨ reg = 1#3 ∨ reg = 2#3 ∨ reg = 3#3 ∨ reg = 4#3 ∨ reg = 5#3 ∨ reg = 6#3 ∨ reg = 7#3 := by decide

theorem mode_cases : ∀ mode : BitVec 2, mode = 0b00#2 ∨ mode = 0b01#2 ∨ mode = 0b10#2 ∨ mode = 0b11#2 := by decide

/-- A word is a command word, of its own reserved bits and MODE (R84). -/
theorem eq_commandWord (w : Word) : w = w.extractLsb' 2 30 ++ w.extractLsb' 0 2 := by
  apply BitVec.eq_of_getLsbD_eq
  intro i hi
  rw [getLsbD_commandWord, BitVec.getLsbD_extractLsb', BitVec.getLsbD_extractLsb']
  split
  case isTrue hmode => simp [hmode]
  case isFalse hrsvd =>
    have hlt : i - 2 < 30 := by omega
    have hbit : 2 + (i - 2) = i := by omega
    simp [hlt, hbit]

/-- An aligned offset is four times its register's number (R82). -/
theorem eq_regOffset : ∀ off : BitVec 5, off.getLsbD 0 = false → off.getLsbD 1 = false →
    off = off.extractLsb' 2 3 ++ 0b00#2 := by decide

/-- `i` is well-formed, and `ht` is its descriptor. -/
structure IsEncodedBy (i : Instr) (ht : Descriptor) : Prop where
  wellFormed : i.wellFormed = true
  encode_eq : encode i = ht

theorem decodeRead_isEncodedBy (reg : BitVec 3) (w : Word) :
    IsEncodedBy (decodeRead reg w) (encodeRead (reg ++ 0b00#2) w) := by
  obtain rfl | rfl | rfl | rfl | rfl | rfl | rfl | rfl := reg_cases reg <;> exact ⟨rfl, rfl⟩

theorem decodeCommand_isEncodedBy (w : Word) : IsEncodedBy (decodeCommand w) (encodeWrite 0x08#5 w) := by
  rw [eq_commandWord w, decodeCommand_commandWord]
  obtain hmode | hmode | hmode | hmode := mode_cases (w.extractLsb' 0 2) <;> rw [hmode] <;> exact ⟨rfl, rfl⟩

theorem decodeWrite_isEncodedBy (reg : BitVec 3) (w : Word) :
    IsEncodedBy (decodeWrite reg w) (encodeWrite (reg ++ 0b00#2) w) := by
  obtain rfl | rfl | rfl | rfl | rfl | rfl | rfl | rfl := reg_cases reg
  case inr.inr.inl => exact decodeCommand_isEncodedBy w
  all_goals exact ⟨rfl, rfl⟩

theorem decodeWordAccess_isEncodedBy (we : Bool) (off : BitVec 5) (w : Word) :
    IsEncodedBy (decodeWordAccess we off w) (encodeFields we .bits32 off w) := by
  cases hbit0 : off.getLsbD 0
  case true =>
    rw [decodeWordAccess_of_odd hbit0]
    exact ⟨hbit0, rfl⟩
  case false =>
    cases hbit1 : off.getLsbD 1
    case true =>
      rw [decodeWordAccess_of_two hbit0 hbit1]
      exact ⟨wellFormed_busErrAlign2_iff.2 ⟨hbit0, hbit1⟩, rfl⟩
    case false =>
      rw [decodeWordAccess_of_aligned hbit0 hbit1]
      generalize hreg : off.extractLsb' 2 3 = reg
      obtain rfl : off = reg ++ 0b00#2 := hreg ▸ eq_regOffset off hbit0 hbit1
      cases we with
      | false => exact decodeRead_isEncodedBy _ w
      | true => exact decodeWrite_isEncodedBy _ w

theorem decodeFields_isEncodedBy (we : Bool) (size : AccessSize) (off : BitVec 5) (w : Word) :
    IsEncodedBy (decodeFields we size off w) (encodeFields we size off w) := by
  cases size with
  | bits8 | bits16 | other => exact ⟨rfl, rfl⟩
  | bits32 => exact decodeWordAccess_isEncodedBy we off w

theorem decodeDescriptor_isEncodedBy (ht : Descriptor) : IsEncodedBy (decodeDescriptor ht) ht := by
  have hfields := decodeFields_isEncodedBy (descWe ht) (sizeOfCode (descSize ht)) (descOff ht) (descWdata ht)
  rwa [encodeFields_fields] at hfields

/-- Settles O3: the decoder's answer encodes back, and by O2 it is the only instruction that does. -/
theorem everyDescriptorEncodesOneInstruction : Obligations.EveryDescriptorEncodesOneInstruction := by
  intro ht
  have hdec := decodeDescriptor_isEncodedBy ht
  refine ⟨hdec.wellFormed, hdec.encode_eq, fun i hwf henc => ?_⟩
  rw [← henc, decodeOfEncodeIsTheInstruction i hwf]

/-! ### The rows of the opcode table (R82) -/

/-- The matches of two rows differ in a bit that both masks look at. -/
def RowsDiffer (r r' : OpcodeRow) : Prop := r.value &&& r'.mask ≠ r'.value &&& r.mask

theorem value_eq_of_covers {r : OpcodeRow} {ht : Descriptor} (h : r.covers ht = true) : r.value = ht &&& r.mask :=
  (beq_iff_eq.1 h).symm

/-- No descriptor is of two rows that differ. -/
theorem not_rowsDiffer_of_covers {r r' : OpcodeRow} {ht : Descriptor} (h : r.covers ht = true)
    (h' : r'.covers ht = true) : ¬ RowsDiffer r r' := by
  rw [RowsDiffer, not_not, value_eq_of_covers h, value_eq_of_covers h', BitVec.and_assoc, BitVec.and_assoc,
    BitVec.and_comm r.mask]

theorem opcodeRows_pairwise_differ : opcodeRows.Pairwise RowsDiffer := by
  unfold RowsDiffer
  decide

/-- Where rows differ pairwise, the one that covers a descriptor is the only one. -/
theorem filter_covers_eq_singleton {rows : List OpcodeRow} {r : OpcodeRow} {ht : Descriptor}
    (hdiffer : rows.Pairwise RowsDiffer) (hmem : r ∈ rows) (hcovers : r.covers ht = true) :
    rows.filter (fun r => r.covers ht) = [r] := by
  have hmem' : r ∈ rows.filter (fun r => r.covers ht) := List.mem_filter.2 ⟨hmem, hcovers⟩
  have hdiffer' := hdiffer.filter (fun r => r.covers ht)
  have hall : ∀ r' ∈ rows.filter (fun r => r.covers ht), r'.covers ht = true := fun r' h => (List.mem_filter.1 h).2
  generalize rows.filter (fun r => r.covers ht) = covering at hmem' hdiffer' hall
  match covering with
  | [] => exact absurd hmem' List.not_mem_nil
  | [x] => rw [List.mem_singleton.1 hmem']
  | x :: y :: _ =>
    have hxy : RowsDiffer x y := List.rel_of_pairwise_cons hdiffer' List.mem_cons_self
    exact absurd hxy (not_rowsDiffer_of_covers (hall x (by simp)) (hall y (by simp)))

/-- The laws about each constructor, put together. -/
theorem encodesItsRow : ∀ i : Instr, EncodesItsRow.Statement i
  | .rdDataIn w => EncodesItsRow.rdDataIn w
  | .rdKey w => EncodesItsRow.rdKey w
  | .rdCmd w => EncodesItsRow.rdCmd w
  | .rdStatus w => EncodesItsRow.rdStatus w
  | .rdResult w => EncodesItsRow.rdResult w
  | .wrDataIn w => EncodesItsRow.wrDataIn w
  | .wrKey w => EncodesItsRow.wrKey w
  | .wrStatus w => EncodesItsRow.wrStatus w
  | .wrResult w => EncodesItsRow.wrResult w
  | .encrypt r => EncodesItsRow.encrypt r
  | .decrypt r => EncodesItsRow.decrypt r
  | .invalidMode00 r => EncodesItsRow.invalidMode00 r
  | .invalidMode11 r => EncodesItsRow.invalidMode11 r
  | .rdRsvd14 w => EncodesItsRow.rdRsvd14 w
  | .rdRsvd18 w => EncodesItsRow.rdRsvd18 w
  | .rdRsvd1C w => EncodesItsRow.rdRsvd1C w
  | .wrRsvd14 w => EncodesItsRow.wrRsvd14 w
  | .wrRsvd18 w => EncodesItsRow.wrRsvd18 w
  | .wrRsvd1C w => EncodesItsRow.wrRsvd1C w
  | .busErrSize8 we off w => EncodesItsRow.busErrSize8 we off w
  | .busErrSize16 we off w => EncodesItsRow.busErrSize16 we off w
  | .busErrSizeOther we off w => EncodesItsRow.busErrSizeOther we off w
  | .busErrAlignOdd we off w => EncodesItsRow.busErrAlignOdd we off w
  | .busErrAlign2 we off w => EncodesItsRow.busErrAlign2 we off w

/-- The row of the decoded instruction is of the table, has its mnemonic and covers the descriptor. -/
theorem exists_row_of_descriptor (ht : Descriptor) :
    ∃ r ∈ opcodeRows, r.mnemonic = mnemonicOf (decodeDescriptor ht) ∧ r.covers ht = true := by
  have hdec := decodeDescriptor_isEncodedBy ht
  obtain ⟨r, hrow, hcovers⟩ := encodesItsRow (decodeDescriptor ht) hdec.wellFormed
  rw [hdec.encode_eq] at hcovers
  rw [rowOf] at hrow
  have hname := List.find?_some hrow
  exact ⟨r, List.mem_of_find?_eq_some hrow, beq_iff_eq.1 hname, hcovers⟩

/-- Settles O4: the decoded instruction's row covers the descriptor, and the table's rows differ pairwise. -/
theorem exactlyOneTableRowCoversADescriptor : Obligations.ExactlyOneTableRowCoversADescriptor := by
  intro ht
  obtain ⟨r, hmem, hname, hcovers⟩ := exists_row_of_descriptor ht
  rw [filter_covers_eq_singleton opcodeRows_pairwise_differ hmem hcovers, List.map_singleton, hname]

/-! ### Byte 4 (R83) -/

theorem toNat_descWe (ht : Descriptor) : (descWe ht).toNat = ht.toNat / 2 ^ 39 % 2 := by
  rw [descWe, BitVec.getLsbD, Nat.toNat_testBit]

theorem toNat_byteFour (ht : Descriptor) : (byteOfDescriptor ht 4).toNat = ht.toNat / 2 ^ 32 % 2 ^ 8 := by
  rw [byteOfDescriptor, BitVec.extractLsb'_toNat, Nat.shiftRight_eq_div_pow]

/-- R83's formula: byte 4 is WE, SIZE and OFF. -/
theorem toNat_byteFour_eq_fields (ht : Descriptor) :
    (byteOfDescriptor ht 4).toNat = (descWe ht).toNat * 0x80 + (descSize ht).toNat * 0x20 + (descOff ht).toNat := by
  rw [toNat_byteFour, toNat_descWe, toNat_descSize, toNat_descOff]
  omega

/-- The decoder, on byte 4 and WDATA. -/
def decodeByteFour (b : BitVec 8) (w : Word) : Instr :=
  decodeFields (b.getLsbD 7) (sizeOfCode (b.extractLsb' 5 2)) (b.extractLsb' 0 5) w

/-- Byte 4 holds WE, SIZE and OFF, so with WDATA it is all that the decoder reads. -/
theorem decodeDescriptor_eq_decodeByteFour (ht : Descriptor) :
    decodeDescriptor ht = decodeByteFour (byteOfDescriptor ht 4) (descWdata ht) := by
  have hwe : (byteOfDescriptor ht 4).getLsbD 7 = descWe ht := by
    simp [byteOfDescriptor, descWe]
  have hsize : (byteOfDescriptor ht 4).extractLsb' 5 2 = descSize ht := by
    apply BitVec.eq_of_toNat_eq
    rw [BitVec.extractLsb'_toNat, toNat_byteFour, toNat_descSize, Nat.shiftRight_eq_div_pow]
    omega
  have hoff : (byteOfDescriptor ht 4).extractLsb' 0 5 = descOff ht := by
    apply BitVec.eq_of_toNat_eq
    rw [BitVec.extractLsb'_toNat, toNat_byteFour, toNat_descOff, Nat.shiftRight_zero]
    omega
  rw [decodeDescriptor, decodeByteFour, hwe, hsize, hoff]

theorem decodeDescriptor_of_byteFour {ht : Descriptor} {b : BitVec 8} (h : byteOfDescriptor ht 4 = b) :
    decodeDescriptor ht = decodeByteFour b (descWdata ht) :=
  h ▸ decodeDescriptor_eq_decodeByteFour ht

theorem raisesBusError_decodeCommand (w : Word) : raisesBusError (decodeCommand w) = false := by
  rw [eq_commandWord w, decodeCommand_commandWord]
  split_ifs <;> rfl

theorem isCmdWrite_decodeCommand (w : Word) : isCmdWrite (decodeCommand w) = true := by
  rw [eq_commandWord w, decodeCommand_commandWord]
  split_ifs <;> rfl

theorem raisesBusError_decodeRead (reg : BitVec 3) (w : Word) : raisesBusError (decodeRead reg w) = false := by
  obtain rfl | rfl | rfl | rfl | rfl | rfl | rfl | rfl := reg_cases reg <;> rfl

theorem raisesBusError_decodeWrite (reg : BitVec 3) (w : Word) : raisesBusError (decodeWrite reg w) = false := by
  obtain rfl | rfl | rfl | rfl | rfl | rfl | rfl | rfl := reg_cases reg
  case inr.inr.inl => exact raisesBusError_decodeCommand w
  all_goals rfl

theorem raisesBusError_decodeWordAccess (we : Bool) (off : BitVec 5) (w : Word) :
    raisesBusError (decodeWordAccess we off w) = (off.getLsbD 0 || off.getLsbD 1) := by
  cases hbit0 : off.getLsbD 0
  case true =>
    rw [decodeWordAccess_of_odd hbit0]
    rfl
  case false =>
    cases hbit1 : off.getLsbD 1
    case true =>
      rw [decodeWordAccess_of_two hbit0 hbit1]
      rfl
    case false =>
      rw [decodeWordAccess_of_aligned hbit0 hbit1]
      cases we with
      | false => exact raisesBusError_decodeRead _ w
      | true => exact raisesBusError_decodeWrite _ w

/-- R87: an access is legal when it is of 32 bits and aligned. -/
theorem raisesBusError_decodeFields (we : Bool) (size : AccessSize) (off : BitVec 5) (w : Word) :
    raisesBusError (decodeFields we size off w) = (decide (size ≠ .bits32) || off.getLsbD 0 || off.getLsbD 1) := by
  cases size with
  | bits8 | bits16 | other => rfl
  | bits32 => exact raisesBusError_decodeWordAccess we off w

/-- The sixteen values of byte 4 with SIZE = 0b10 and OFF[1:0] = 0b00. -/
theorem legalByteFour_iff : ∀ b : BitVec 8,
    (decide (sizeOfCode (b.extractLsb' 5 2) ≠ .bits32) || (b.extractLsb' 0 5).getLsbD 0 ||
      (b.extractLsb' 0 5).getLsbD 1) = false ↔
    b ∈ [0x40#8, 0x44#8, 0x48#8, 0x4C#8, 0x50#8, 0x54#8, 0x58#8, 0x5C#8,
      0xC0#8, 0xC4#8, 0xC8#8, 0xCC#8, 0xD0#8, 0xD4#8, 0xD8#8, 0xDC#8] := by decide

theorem byteFour_encodeCommand (mode : BitVec 2) (rsvd : BitVec 30) :
    byteOfDescriptor (encodeCommand mode rsvd) 4 = 0xC8#8 := by
  apply BitVec.eq_of_toNat_eq
  rw [toNat_byteFour_eq_fields, encodeCommand, encodeWrite, descWe_encodeFields, descSize_encodeFields,
    descOff_encodeFields]
  rfl

theorem byteFour_encode_of_isCmdWrite {i : Instr} (h : isCmdWrite i = true) :
    byteOfDescriptor (encode i) 4 = 0xC8#8 := by
  cases i with
  | encrypt _ | decrypt _ | invalidMode00 _ | invalidMode11 _ => exact byteFour_encodeCommand _ _
  | _ => cases h

theorem byteFour_eq_iff_isCmdWrite (ht : Descriptor) :
    byteOfDescriptor ht 4 = 0xC8#8 ↔ isCmdWrite (decodeDescriptor ht) = true := by
  refine ⟨fun h => ?_, fun h => ?_⟩
  · rw [decodeDescriptor_of_byteFour h]
    exact isCmdWrite_decodeCommand _
  · have hbyte := byteFour_encode_of_isCmdWrite h
    rwa [(decodeDescriptor_isEncodedBy ht).encode_eq] at hbyte

/-- What byte 4 fixes of an access that is no CMD write: its row, whatever WDATA is. -/
theorem mnemonic_of_byteFour {ht : Descriptor} {b : BitVec 8} {name : String}
    (hname : ∀ w, mnemonicOf (decodeByteFour b w) = name) (h : byteOfDescriptor ht 4 = b) :
    mnemonicOf (decodeDescriptor ht) = name := by
  rw [decodeDescriptor_of_byteFour h, hname]

/-- Settles O5: the decoder reads byte 4 and WDATA, and WDATA selects only among the CMD writes. -/
theorem byteFourIdentifiesEveryLegalAccess : Obligations.ByteFourIdentifiesEveryLegalAccess := by
  intro ht
  refine ⟨?formula, ?legal, ?_, ?_, ?_, ?_, ?_, ?_, ?_, ?_, ?_, ?_, byteFour_eq_iff_isCmdWrite ht, ?_, ?_, ?_, ?_, ?_⟩
  case formula =>
    rw [toNat_byteFour_eq_fields, toNat_descSize, toNat_descOff, descWe]
  case legal =>
    rw [decodeDescriptor_eq_decodeByteFour, decodeByteFour, raisesBusError_decodeFields]
    exact legalByteFour_iff _
  all_goals exact mnemonic_of_byteFour fun _ => rfl

/-! ### Descriptors the spec writes out -/

theorem decodeTableWord_of_encode {i : Instr} {w : Nat} (hwf : i.wellFormed = true) (henc : (encode i).toNat = w) :
    decodeTableWord 40 w = some i := by
  rw [← henc, decodeTableWord_of_lt _ (encode i).isLt, BitVec.ofNat_toNat, BitVec.setWidth_eq,
    decodeOfEncodeIsTheInstruction i hwf]

/-- Settles O1: each descriptor is the encoder's for the access it stands for. -/
theorem specDescriptorsDecode : Obligations.SpecDescriptorsDecode := by
  refine ⟨?_, ?_, ?_, ?_, ?_, ?_, ?_⟩ <;> exact decodeTableWord_of_encode rfl rfl

end Sys2Proof.EncodingProofs
end

section
/-!
PROOFS about the datapath (spec/40_datapath.md): every value of F and what follows from it (R104, R105, R107, R109), and
the round undone on swapped halves (R114).

F is SUB8 after an xor. SUB8 is a bijection because the S-box of each lane is one (R106), and the xor with a fixed operand
is its own inverse; so F is a bijection in each operand, and ROUND's xor with F cancels when it is applied again.
-/

namespace Sys2Proof.DatapathProofs

open Sys2Proof Sys2Proof.Machine

/-! ### A Half and its nibbles (R103) -/

@[simp] theorem nibHi_append (a b : Nibble) : nibHi (a ++ b) = a := by
  unfold nibHi
  exact BitVec.extractLsb'_append_eq_left

@[simp] theorem nibLo_append (a b : Nibble) : nibLo (a ++ b) = b := by
  unfold nibLo
  exact BitVec.extractLsb'_append_eq_right

theorem nibHi_append_nibLo (x : Half) : nibHi x ++ nibLo x = x := by
  have happend : nibHi x ++ nibLo x = x.extractLsb' 0 8 := BitVec.extractLsb'_append_extractLsb'_eq_extractLsb' rfl
  rw [happend, BitVec.extractLsb'_eq_self]

/-! ### SUB8 (R107) -/

theorem sub8_eq_add_six (x : Half) : sub8 x = (nibHi x + 6#4) ++ (nibLo x + 6#4) := by
  rw [sub8, sbox_eq_add_six, sbox_eq_add_six]

/-- Both lanes of SUB8 undone by R106's inverse of the S-box. -/
def sub8Inv (x : Half) : Half := (nibHi x + 10#4) ++ (nibLo x + 10#4)

theorem sub8Inv_sub8 : Function.LeftInverse sub8Inv sub8 :=
  fun x => by
    rw [sub8Inv, sub8, nibHi_append, nibLo_append, (sbox_add_ten _).2, (sbox_add_ten _).2, nibHi_append_nibLo]

theorem sub8_sub8Inv : Function.RightInverse sub8Inv sub8 :=
  fun x => by
    rw [sub8, sub8Inv, nibHi_append, nibLo_append, (sbox_add_ten _).1, (sbox_add_ten _).1, nibHi_append_nibLo]

theorem sub8_bijective : Function.Bijective sub8 :=
  ⟨sub8Inv_sub8.injective, sub8_sub8Inv.surjective⟩

theorem sub8_eq_zero_iff (x : Half) : sub8 x = 0x00#8 ↔ x = 0xAA#8 := by
  have hzero : sub8 0xAA#8 = 0x00#8 := by decide
  rw [← hzero, sub8_bijective.injective.eq_iff]

/-! ### F (R109) -/

theorem roundF_comm (h k : Half) : roundF h k = roundF k h := by
  rw [roundF, roundF, BitVec.xor_comm]

theorem roundF_self (h : Half) : roundF h h = 0x66#8 := by
  have hsub8 : sub8 0x00#8 = 0x66#8 := by decide
  rw [roundF, BitVec.xor_self, hsub8]

theorem roundF_congr {h k h' k' : Half} (hxor : h ^^^ k = h' ^^^ k') : roundF h k = roundF h' k' :=
  congrArg sub8 hxor

theorem roundF_left_bijective (k : Half) : Function.Bijective (fun h => roundF h k) :=
  sub8_bijective.comp (xor_left_involutive k).bijective

theorem roundF_right_bijective (h : Half) : Function.Bijective (fun k => roundF h k) := by
  simpa only [roundF_comm h] using roundF_left_bijective h

/-- Settles O41: the S-box's closed form in each lane, and SUB8's bijectivity carried through the xor. -/
theorem roundFunctionProperties : Obligations.RoundFunctionProperties :=
  ⟨fun h k => sub8_eq_add_six (h ^^^ k),
    fun h k => ⟨roundF_comm h k, roundF_self h, sub8_eq_zero_iff (h ^^^ k)⟩,
    fun _ _ _ _ => roundF_congr, roundF_left_bijective, roundF_right_bijective⟩

/-! ### ROUND (R113, R114) -/

theorem feistelRound_swap_feistelRound (lr : Half × Half) (k : Half) :
    feistelRound (feistelRound lr k).swap k = lr.swap :=
  Prod.ext rfl (xor_cancel_right lr.1 (roundF lr.2 k))

/-- Settles O40. -/
theorem roundIsUndoneOnSwappedHalves : Obligations.RoundIsUndoneOnSwappedHalves := by
  intro l r k l' r' hround
  have hundo := feistelRound_swap_feistelRound (l, r) k
  rwa [hround] at hundo

end Sys2Proof.DatapathProofs
end

section
/-!
PROOFS about the cipher commands (spec/41_cipher_commands.md): acceptance and the engine's round (R135 to R143), the
reference transforms (R130 to R134), a command along any run without a reset or an illegal access (R144 to R146), and the
host adapter (R150 to R154).

The two directions are one recursion, `roundState_succ`, with the subkey that KSEL selects; so the round-trip law is proved
once, for a direction and its opposite. `CommandAt` says what the state is when an accepted command has made `n` rounds;
every event that is no reset and no illegal access keeps it, a turn of the engine with one round more. The completion, the
round states and the Transform contract are read off it.
-/

namespace Sys2Proof.CipherProofs

open Sys2Proof Sys2Proof.Machine Sys2Proof.StateProofs Sys2Proof.MemoryProofs Sys2Proof.EncodingProofs
open Sys2Proof.DatapathProofs

/-! ### CMD writes (R135 to R141) -/

theorem cmdWrite_of_busy {s : State} (f : State → State) (hbusy : s.busy = true) :
    cmdWrite f s = .next (s.respond .okay) :=
  if_pos hbusy

theorem cmdWrite_of_idle {s : State} (f : State → State) (hidle : s.busy = false) :
    cmdWrite f s = .next ((f s.clearOutcome).respond .okay) := by
  rw [cmdWrite_eq, hidle, if_neg Bool.false_ne_true]

theorem exec_commandOf (d : Direction) (rsvd : BitVec 30) (s : State) :
    exec (commandOf d rsvd) s = cmdWrite (acceptValid d) s := by
  cases d <;> rfl

theorem exec_cmdWrite_of_busy {i : Instr} {s : State} (hcmd : isCmdWrite i = true) (hbusy : s.busy = true) :
    exec i s = .next (s.respond .okay) := by
  cases i with
  | encrypt _ | decrypt _ | invalidMode00 _ | invalidMode11 _ => exact cmdWrite_of_busy _ hbusy
  | _ => cases hcmd

/-- A CMD write as byte 4 and WDATA (R83) is the encoder's (R80). -/
theorem commandBytes_eq_encodeCommand (mode : BitVec 2) (rsvd : BitVec 30) :
    0xC8#8 ++ (rsvd ++ mode) = encodeCommand mode rsvd := rfl

/-- Settles O6: the decoder reads MODE alone of a command word, and no meaning reads the reserved bits. -/
theorem reservedCommandBitsAreIgnored : Obligations.ReservedCommandBitsAreIgnored := by
  refine ⟨fun rsvd => ?_, fun _ _ _ => ⟨rfl, rfl, rfl, rfl⟩⟩
  refine ⟨?_, ?_, ?_, ?_⟩ <;>
    rw [commandBytes_eq_encodeCommand, decodeDescriptor_encodeCommand, decodeCommand_commandWord] <;> rfl

/-- Settles O13: acceptance on an idle FTE is `acceptValid`, and an operand write keeps the command. -/
theorem validCommandIsAccepted : Obligations.ValidCommandIsAccepted := by
  refine ⟨fun rsvd s hidle => ⟨cmdWrite_of_idle _ hidle, cmdWrite_of_idle _ hidle⟩, fun i w s hi => ?_⟩
  have hkeeps : ∃ t, exec i s = .next t ∧ KeepsCommand s t := by
    obtain rfl | rfl := hi
    · exact ⟨_, rfl, execWrDataIn_keepsCommand rfl⟩
    · exact ⟨_, rfl, execWrKey_keepsCommand rfl⟩
  obtain ⟨t, hexec, hkeep⟩ := hkeeps
  exact ⟨t, hexec, hkeep.l, hkeep.r, hkeep.sk1, hkeep.sk2, hkeep.dir, hkeep.ctr, hkeep.busy⟩

theorem statusWord_of_invalidMode {s : State} (hidle : s.busy = false) (hdone : s.done = true)
    (herr : s.err = .invalidMode) : statusWord s = 0x0000000A#32 := by
  rw [statusWord, hidle, hdone, herr]
  rfl

/-- Settles O14: an idle FTE makes the effect of InvalidModeError, and a busy one drops the write. -/
theorem invalidModeCompletesAtOnce : Obligations.InvalidModeCompletesAtOnce := by
  intro rsvd s
  obtain ⟨-, -, hdecode00, hdecode11⟩ := reservedCommandBitsAreIgnored.1 rsvd
  refine ⟨hdecode00, hdecode11, fun hidle => ?_, fun hbusy => ?_⟩
  · exact ⟨_, rfl, cmdWrite_of_idle _ hidle, cmdWrite_of_idle _ hidle, statusWord_of_invalidMode hidle rfl rfl⟩
  · exact ⟨cmdWrite_of_busy _ hbusy, cmdWrite_of_busy _ hbusy⟩

/-- Settles O15: the four CMD writes are one operation, which looks at BUSY first. -/
theorem cmdWriteWhileBusyIsDropped : Obligations.CmdWriteWhileBusyIsDropped :=
  fun _ _ hcmd hbusy => exec_cmdWrite_of_busy hcmd hbusy

/-! ### The engine's turn (R142, R143) -/

theorem engineTurn_of_idle {s : State} (hidle : s.busy = false) : engineTurn s = .next s := by
  rw [engineTurn, hidle, if_neg Bool.false_ne_true]

theorem step_engineTurn_of_live {s : State} {es : List Event} (hlive : s.Live) (hev : s.events = .engineTurn :: es) :
    step s = engineTurn (s.withEvents es) := by
  rw [step_cons hev, serve_engineTurn_of_live (s := s.withEvents es) hlive]

/-- KSEL as R143 writes it out. -/
theorem ksel_eq_ite (d : Direction) (j : Nat) (sk1 sk2 : Half) :
    ksel d j sk1 sk2 =
      if (j % 2 = 1 ∧ d = .encrypt) ∨ (j % 2 = 0 ∧ d = .decrypt) then sk1 else sk2 := by
  obtain hj | hj := Nat.mod_two_eq_zero_or_one j <;> cases d <;> simp [ksel, hj]

theorem exitBlock_eq_ite (d : Direction) (l r : Half) :
    exitBlock d l r = if d = .encrypt then l ++ r else r ++ l := by
  cases d <;> rfl

theorem ofNat_toNat_succ (c : BitVec 3) : BitVec.ofNat 3 (c.toNat + 1) = c + 1#3 := by
  rw [BitVec.ofNat_add, BitVec.ofNat_toNat, BitVec.setWidth_eq]

/-- Settles O23: the engine's turn is one round, and with CTR = 3 also the completion. -/
theorem engineStepPerformsOneRound : Obligations.EngineStepPerformsOneRound := by
  intro s es hlive hbusy hctr hev
  dsimp only
  rw [step_engineTurn_of_live hlive hev, ← ksel_eq_ite, ← exitBlock_eq_ite, ← ofNat_toNat_succ]
  refine ⟨fun hj => ?_, fun hj => ?_⟩
  · exact engineTurn_of_ctr_lt (s := s.withEvents es) hbusy (Nat.lt_of_succ_lt_succ hj)
  · rw [hj]
    exact engineTurn_of_ctr_eq (s := s.withEvents es) hbusy (Nat.succ.inj hj)

/-- Settles O24: an idle turn is no step, and a busy one sets CTR to the number of its round. -/
theorem engineIsEnabledExactlyWhenBusy : Obligations.EngineIsEnabledExactlyWhenBusy := by
  intro s es hlive hev
  rw [step_engineTurn_of_live hlive hev]
  refine ⟨fun hidle => engineTurn_of_idle (s := s.withEvents es) hidle, fun hbusy hctr => ?_⟩
  obtain hlt | heq := Nat.lt_or_eq_of_le hctr
  · have hround : s.ctr.toNat + 1 < 8 := by omega
    exact ⟨_, engineTurn_of_ctr_lt (s := s.withEvents es) hbusy hlt, toNat_ctr_applyRound hround _⟩
  · exact ⟨_, engineTurn_of_ctr_eq (s := s.withEvents es) hbusy heq, by rw [heq]; rfl⟩

/-! ### The two directions as one recursion (R130, R131, R136, R143) -/

theorem roundState_zero (d : Direction) (v key : Block) : roundState d v key 0 = entryHalves d v := by
  cases d <;> rfl

theorem encSubkey_eq_ksel (key : Block) (j : Nat) : encSubkey key j = ksel .encrypt j (subkey1 key) (subkey2 key) := by
  simp [encSubkey, ksel_eq_ite]

theorem decSubkey_eq_ksel (key : Block) (j : Nat) : decSubkey key j = ksel .decrypt j (subkey1 key) (subkey2 key) := by
  obtain hj | hj := Nat.mod_two_eq_zero_or_one j <;> simp [decSubkey, ksel_eq_ite, hj]

theorem roundState_succ (d : Direction) (v key : Block) (j : Nat) :
    roundState d v key (j + 1) =
      feistelRound (roundState d v key j) (ksel d (j + 1) (subkey1 key) (subkey2 key)) := by
  cases d with
  | encrypt => rw [← encSubkey_eq_ksel]; rfl
  | decrypt => rw [← decSubkey_eq_ksel]; rfl

theorem transform_eq_exitBlock (d : Direction) (v key : Block) :
    transform d v key = exitBlock d (roundState d v key 4).1 (roundState d v key 4).2 := by
  cases d <;> rfl

/-! ### The round trip (R133, R134) -/

/-- The direction that undoes a direction. -/
def opposite : Direction → Direction
  | .encrypt => .decrypt
  | .decrypt => .encrypt

theorem entryHalves_opposite_exitBlock (d : Direction) (lr : Half × Half) :
    entryHalves (opposite d) (exitBlock d lr.1 lr.2) = lr.swap := by
  cases d <;> simp [opposite, entryHalves, exitBlock, Prod.swap]

theorem exitBlock_opposite_entryHalves (d : Direction) (v : Block) :
    exitBlock (opposite d) (entryHalves d v).2 (entryHalves d v).1 = v := by
  cases d <;> exact combine_split16 v

/-- Step j + 1 of the opposite direction runs under the subkey of round 4 - j. -/
theorem ksel_opposite (d : Direction) {j : Nat} (hj : j < 4) (sk1 sk2 : Half) :
    ksel (opposite d) (j + 1) sk1 sk2 = ksel d (4 - j) sk1 sk2 := by
  have hpar : (4 - j) % 2 = 1 ↔ (j + 1) % 2 = 0 := by omega
  have hpar' : (4 - j) % 2 = 0 ↔ (j + 1) % 2 = 1 := by omega
  cases d <;> simp [ksel_eq_ite, opposite, hpar, hpar']

/-- Each step of the opposite direction undoes one round, the last first (R146). -/
theorem roundState_opposite_transform (d : Direction) (v key : Block) {j : Nat} (hj : j ≤ 4) :
    roundState (opposite d) (transform d v key) key j = (roundState d v key (4 - j)).swap := by
  induction j with
  | zero => rw [roundState_zero, transform_eq_exitBlock, entryHalves_opposite_exitBlock]
  | succ j ih =>
    have hround : 4 - j = 4 - (j + 1) + 1 := by omega
    rw [roundState_succ, ih (by omega), ksel_opposite d (by omega), hround, roundState_succ,
      feistelRound_swap_feistelRound]

theorem transform_opposite_transform (d : Direction) (v key : Block) :
    transform (opposite d) (transform d v key) key = v := by
  rw [transform_eq_exitBlock, roundState_opposite_transform d v key le_rfl, Nat.sub_self, roundState_zero]
  exact exitBlock_opposite_entryHalves d v

/-- Settles O42: the round trip of each direction. -/
theorem roundTripLaw : Obligations.RoundTripLaw :=
  fun p k c => ⟨transform_opposite_transform .encrypt p k, transform_opposite_transform .decrypt c k⟩

/-- Settles O43: each transform has the other as its two-sided inverse. -/
theorem encAndDecArePermutations : Obligations.EncAndDecArePermutations := by
  intro k
  have hleft : Function.LeftInverse (fun c => dec c k) (fun p => enc p k) := fun p => (roundTripLaw p k 0).1
  have hright : Function.RightInverse (fun c => dec c k) (fun p => enc p k) := fun c => (roundTripLaw 0 k c).2
  exact ⟨⟨hleft.injective, hright.surjective⟩, ⟨hright.injective, hleft.surjective⟩, hleft, hright⟩

/-! ### The literal reading (R134) -/

/-- The literal reading differs from DEC in its subkeys, so only where K1 and K2 differ. -/
theorem literalDecState_of_equal_subkeys {key : Block} (hkey : subkey1 key = subkey2 key) (c : Block) (j : Nat) :
    literalDecState c key j = decState c key j := by
  have hsubkey : ∀ i, encSubkey key i = decSubkey key i := fun i => by rw [encSubkey, decSubkey, hkey]
  induction j with
  | zero => rfl
  | succ j ih => rw [literalDecState, decState, ih, hsubkey]

theorem swapHalves_combine (a b : Half) : swapHalves (combine a b) = combine b a := by
  rw [swapHalves, split16_combine]

theorem swapHalves_eq_self_iff (v : Block) : swapHalves v = v ↔ (split16 v).1 = (split16 v).2 := by
  refine ⟨fun h => ?_, fun h => ?_⟩
  · have hfst : (split16 (swapHalves v)).1 = (split16 v).2 := by rw [split16_swapHalves]
    rwa [h] at hfst
  · rw [← combine_split16 v, swapHalves_combine, h]

/-- Settles O55: with the same subkeys the literal reading leaves out the exit swap and nothing else. -/
theorem equalSubkeysHideTheLiteralReading : Obligations.EqualSubkeysHideTheLiteralReading := by
  intro c k hkey
  have hswap : literalDec c k = swapHalves (dec c k) := by
    rw [literalDec, literalDecState_of_equal_subkeys hkey, dec, swapHalves_combine]
  rw [hswap]
  exact ⟨rfl, swapHalves_eq_self_iff (dec c k)⟩

/-! ### A command in flight (R136, R143, R144) -/

/-- The state when the command of direction `d` accepted with operands `v` and `key`, RESULT then being `old`, has made `n`
rounds. -/
structure CommandAt (d : Direction) (v key old : Block) (n : Nat) (s : State) : Prop where
  le_four : n ≤ 4
  busy : s.busy = decide (n < 4)
  done : s.done = decide (n = 4)
  err : s.err = .none
  unmarked : s.faultMark = none
  sk1 : s.sk1 = subkey1 key
  sk2 : s.sk2 = subkey2 key
  dir : s.dir = d
  ctr : s.ctr.toNat = n
  round : (s.l, s.r) = roundState d v key n
  result : s.result = if n < 4 then old else transform d v key

theorem commandAt_acceptValid {s : State} (hlive : s.Live) (d : Direction) :
    CommandAt d s.dataIn s.key s.result 0 ((acceptValid d s.clearOutcome).respond .okay) where
  le_four := by decide
  busy := rfl
  done := rfl
  err := rfl
  unmarked := (stopReason_eq_none.1 hlive).1
  sk1 := rfl
  sk2 := rfl
  dir := rfl
  ctr := rfl
  round := (roundState_zero d s.dataIn s.key).symm
  result := rfl

section Command

variable {d : Direction} {v key old : Block} {n : Nat} {s t : State}

theorem CommandAt.live (h : CommandAt d v key old n s) : s.Live :=
  stopReason_eq_none.2 ⟨h.unmarked, .inl h.err⟩

theorem CommandAt.busy_of_lt (h : CommandAt d v key old n s) (hn : n < 4) : s.busy = true := by
  rw [h.busy, decide_eq_true hn]

theorem CommandAt.idle_of_completed (h : CommandAt d v key old 4 s) : s.busy = false := h.busy

theorem CommandAt.keep (h : CommandAt d v key old n s) (hkeep : KeepsCommand s t)
    (hmark : t.faultMark = s.faultMark) : CommandAt d v key old n t where
  le_four := h.le_four
  busy := hkeep.busy.trans h.busy
  done := hkeep.done.trans h.done
  err := hkeep.err.trans h.err
  unmarked := hmark.trans h.unmarked
  sk1 := hkeep.sk1.trans h.sk1
  sk2 := hkeep.sk2.trans h.sk2
  dir := hkeep.dir.trans h.dir
  ctr := by rw [hkeep.ctr, h.ctr]
  round := by rw [hkeep.l, hkeep.r, h.round]
  result := hkeep.result.trans h.result

theorem CommandAt.withEvents (h : CommandAt d v key old n s) (es : List Event) :
    CommandAt d v key old n (s.withEvents es) :=
  h.keep (by constructor <;> rfl) rfl

theorem CommandAt.respond (h : CommandAt d v key old n s) (a : Response) :
    CommandAt d v key old n (s.respond a) :=
  h.keep (by constructor <;> rfl) rfl

/-- The engine's round is the next round of the command's recursion. -/
theorem CommandAt.round_applyRound (h : CommandAt d v key old n s) :
    ((applyRound (n + 1) s).l, (applyRound (n + 1) s).r) = roundState d v key (n + 1) := by
  rw [roundState_succ, ← h.round, ← h.sk1, ← h.sk2, ← h.dir]
  rfl

theorem CommandAt.after_round (h : CommandAt d v key old n s) (hn : n < 3) :
    CommandAt d v key old (n + 1) (applyRound (n + 1) s) where
  le_four := by omega
  busy := by simp [h.busy]; omega
  done := by simp [h.done]; omega
  err := h.err
  unmarked := h.unmarked
  sk1 := h.sk1
  sk2 := h.sk2
  dir := h.dir
  ctr := toNat_ctr_applyRound (by omega) s
  round := h.round_applyRound
  result := by
    rw [applyRound_result, h.result, if_pos (by omega), if_pos (by omega)]

theorem CommandAt.after_completion (h : CommandAt d v key old 3 s) :
    CommandAt d v key old 4 (completeCommand (applyRound 4 s)) where
  le_four := le_rfl
  busy := rfl
  done := rfl
  err := h.err
  unmarked := h.unmarked
  sk1 := h.sk1
  sk2 := h.sk2
  dir := h.dir
  ctr := rfl
  round := h.round_applyRound
  result := by
    rw [completeCommand_result, transform_eq_exitBlock, ← h.round_applyRound, applyRound_dir, h.dir]
    rfl

/-- The engine's turn makes one round more, until the fourth is made. -/
theorem CommandAt.after_engineTurn (h : CommandAt d v key old n s) :
    ∃ t, engineTurn s = .next t ∧ CommandAt d v key old (min (n + 1) 4) t := by
  obtain hn | rfl | rfl : n < 3 ∨ n = 3 ∨ n = 4 := by have := h.le_four; omega
  · have hturn := engineTurn_of_ctr_lt (h.busy_of_lt (by omega)) (h.ctr ▸ hn)
    rw [h.ctr] at hturn
    rw [min_eq_left (by omega)]
    exact ⟨_, hturn, h.after_round hn⟩
  · exact ⟨_, engineTurn_of_ctr_eq (h.busy_of_lt (by decide)) h.ctr, h.after_completion⟩
  · exact ⟨s, engineTurn_of_idle h.idle_of_completed, h⟩

/-- A legal access keeps the command: an ordinary one always (R160), a CMD write because a busy FTE drops it (R140). -/
theorem CommandAt.after_exec (h : CommandAt d v key old n s) {i : Instr} (hlegal : raisesBusError i = false)
    (hcmd : isCmdWrite i = true → n < 4) : ∃ t, exec i s = .next t ∧ CommandAt d v key old n t := by
  cases hi : isCmdWrite i with
  | true => exact ⟨_, exec_cmdWrite_of_busy hi (h.busy_of_lt (hcmd hi)), h.respond _⟩
  | false =>
    obtain ⟨t, hrepeats⟩ := exec_repeats hi hlegal s
    exact ⟨t, hrepeats.once, h.keep hrepeats.keeps hrepeats.faultMark⟩

/-- One event of a run without a reset or an illegal access. -/
theorem CommandAt.after_serve (h : CommandAt d v key old n s) {e : Event} (he : e.undisturbing = true)
    (hcmd : ∀ ht, e = .access ht → isCmdWrite (decodeDescriptor ht) = true → n < 4) :
    ∃ t, serve e s = .next t ∧ CommandAt d v key old (min (n + engineTurns [e]) 4) t := by
  cases e with
  | reset _ => cases he
  | engineTurn =>
    rw [serve_engineTurn_of_live h.live]
    exact h.after_engineTurn
  | access ht =>
    have hlegal : raisesBusError (decodeDescriptor ht) = false := by simpa [Event.undisturbing] using he
    have hturns : min (n + engineTurns [.access ht]) 4 = n := min_eq_left h.le_four
    rw [serve_access_of_live h.live, hturns]
    exact h.after_exec hlegal (hcmd ht rfl)

/-- A run without a reset or an illegal access, whatever comes after it, makes as many rounds as it holds turns of the
engine, until the fourth is made; by then it may hold no CMD write. -/
theorem CommandAt.deliver_append {es : List Event} (h : CommandAt d v key old n s)
    (hes : es.all Event.undisturbing = true)
    (hcmd : ∀ ht, .access ht ∈ es → isCmdWrite (decodeDescriptor ht) = true → n + engineTurns es < 4)
    (rest : List Event) :
    ∃ t, deliver (es ++ rest) s = deliver rest t ∧ CommandAt d v key old (min (n + engineTurns es) 4) t := by
  induction es generalizing n s with
  | nil =>
    refine ⟨s, rfl, ?_⟩
    rwa [show min (n + engineTurns []) 4 = n from min_eq_left h.le_four]
  | cons e es ih =>
    obtain ⟨he, hes⟩ : e.undisturbing = true ∧ es.all Event.undisturbing = true := by simpa using hes
    have hturns : engineTurns (e :: es) = engineTurns [e] + engineTurns es := List.count_append (l₁ := [e])
    rw [hturns] at hcmd
    obtain ⟨u, hserve, hu⟩ := (h.withEvents (es ++ rest)).after_serve he fun ht heq hc => by
      have := hcmd ht (heq ▸ List.mem_cons_self) hc
      omega
    obtain ⟨t, hdeliver, ht⟩ := ih hu hes fun ht hmem hc => by
      have := hcmd ht (List.mem_cons_of_mem e hmem) hc
      omega
    refine ⟨t, (deliver_cons_of_next hserve).trans hdeliver, ?_⟩
    rwa [hturns, show min (n + (engineTurns [e] + engineTurns es)) 4 =
      min (min (n + engineTurns [e]) 4 + engineTurns es) 4 by omega]

end Command

/-! ### Accesses to an idle FTE -/

section Idle

variable {s t : State}

/-- Turns of an idle engine change nothing (R142). -/
theorem deliver_turns_of_idle (hidle : s.busy = false) (hlive : s.Live) (turns : Nat) (rest : List Event) :
    deliver (List.replicate turns .engineTurn ++ rest) s = deliver rest s := by
  induction turns with
  | zero => rfl
  | succ m ih =>
    have hserve : ∀ es, serve .engineTurn (s.withEvents es) = .next (s.withEvents es) := fun es =>
      (serve_engineTurn_of_live (s := s.withEvents es) hlive).trans (engineTurn_of_idle (s := s.withEvents es) hidle)
    rw [List.replicate_succ, List.cons_append, deliver_cons_of_next (hserve _)]
    exact ih

/-- An access to an idle FTE, after some turns of the engine. -/
theorem deliver_accessAfter_of_idle (hidle : s.busy = false) (hlive : s.Live) {i : Instr} (hwf : i.wellFormed = true)
    (hexec : ∀ es, exec i (s.withEvents es) = .next (t.withEvents es)) (turns : Nat) (rest : List Event) :
    deliver (accessAfter turns (encode i) ++ rest) s = deliver rest t := by
  have hserve : serve (.access (encode i)) (s.withEvents rest) = .next (t.withEvents rest) := by
    rw [serve_access_of_live (s := s.withEvents rest) hlive, decodeOfEncodeIsTheInstruction i hwf, hexec]
  rw [accessAfter, List.append_assoc, deliver_turns_of_idle hidle hlive, List.singleton_append,
    deliver_cons_of_next hserve]
  rfl

theorem deliver_commandAfter (hidle : s.busy = false) (hlive : s.Live) (d : Direction) (rsvd : BitVec 30) (turns : Nat)
    (rest : List Event) :
    deliver (accessAfter turns (encode (commandOf d rsvd)) ++ rest) s =
      deliver rest ((acceptValid d s.clearOutcome).respond .okay) :=
  deliver_accessAfter_of_idle hidle hlive (by cases d <;> rfl)
    (fun es => (exec_commandOf d rsvd _).trans (cmdWrite_of_idle (s := s.withEvents es) _ hidle)) turns rest

end Idle

/-! ### An accepted command along a run (R144 to R146) -/

/-- What R144 to R146 suppose of the state that a CMD write finds and of the legal events `pre` after it. -/
structure AcceptedRun (s : State) (pre : List Event) : Prop where
  idle : s.busy = false
  live : s.Live
  legal : pre.all Event.undisturbing = true
  turns_le : engineTurns pre ≤ 3

section Accepted

variable {s : State} {pre : List Event}

/-- The CMD write is accepted, and `pre` makes a round for each of its turns. -/
theorem AcceptedRun.deliver_append (h : AcceptedRun s pre) (d : Direction) (rsvd : BitVec 30) (rest : List Event) :
    ∃ t, deliver (.access (encode (commandOf d rsvd)) :: (pre ++ rest)) s = deliver rest t ∧
      CommandAt d s.dataIn s.key s.result (engineTurns pre) t := by
  have hle := h.turns_le
  obtain ⟨t, hdeliver, ht⟩ := (commandAt_acceptValid h.live d).deliver_append h.legal (fun _ _ _ => by omega) rest
  rw [show min (0 + engineTurns pre) 4 = engineTurns pre by omega] at ht
  exact ⟨t, (deliver_commandAfter h.idle h.live d rsvd 0 (pre ++ rest)).trans hdeliver, ht⟩

theorem AcceptedRun.after_legal (h : AcceptedRun s pre) (d : Direction) (rsvd : BitVec 30) :
    ∃ t, deliver (.access (encode (commandOf d rsvd)) :: pre) s = .next t ∧
      CommandAt d s.dataIn s.key s.result (engineTurns pre) t := by
  obtain ⟨t, hdeliver, ht⟩ := h.deliver_append d rsvd []
  rw [List.append_nil, deliver_nil] at hdeliver
  exact ⟨_, hdeliver, ht.withEvents []⟩

/-- With one turn of the engine after `pre`, one round more. -/
theorem AcceptedRun.after_turn (h : AcceptedRun s pre) (d : Direction) (rsvd : BitVec 30) :
    ∃ t, deliver (.access (encode (commandOf d rsvd)) :: (pre ++ [.engineTurn])) s = .next t ∧
      CommandAt d s.dataIn s.key s.result (engineTurns pre + 1) t := by
  obtain ⟨u, hpre, hu⟩ := h.deliver_append d rsvd [.engineTurn]
  obtain ⟨t, hturn, ht⟩ := (hu.withEvents []).after_engineTurn
  rw [min_eq_left (Nat.succ_le_succ h.turns_le)] at ht
  rw [← serve_engineTurn_of_live (hu.withEvents []).live] at hturn
  rw [hpre, deliver_cons_of_next hturn, deliver_nil]
  exact ⟨_, rfl, ht.withEvents []⟩

end Accepted

/-- Settles O44: `CommandAt` with fewer than four rounds made, and with all four. -/
theorem commandCompletesAfterFourEngineSteps : Obligations.CommandCompletesAfterFourEngineSteps := by
  intro d rsvd s pre hidle hlive hlegal
  refine ⟨fun hturns => ?_, fun hturns => ?_⟩
  · have hrun : AcceptedRun s pre := ⟨hidle, hlive, hlegal, hturns⟩
    obtain ⟨t, hdeliver, ht⟩ := hrun.after_legal d rsvd
    have hlt : engineTurns pre < 4 := Nat.lt_succ_of_le hturns
    exact ⟨t, hdeliver, ht.busy_of_lt hlt, ht.done.trans (decide_eq_false hlt.ne), ht.result.trans (if_pos hlt)⟩
  · have hrun : AcceptedRun s pre := ⟨hidle, hlive, hlegal, hturns.le⟩
    obtain ⟨t, hdeliver, ht⟩ := hrun.after_turn d rsvd
    rw [hturns] at ht
    exact ⟨t, hdeliver, ht.result, ht.busy, ht.done, ht.err⟩

/-- Settles O45: the recurrence is ROUND's, and `CommandAt` gives the round state after each turn. -/
theorem encryptRoundStates : Obligations.EncryptRoundStates := by
  refine ⟨fun p k i => ⟨rfl, rfl⟩, fun rsvd s pre i hidle hlive hlegal hturns hi => ?_⟩
  subst hturns
  have hrun : AcceptedRun s pre := ⟨hidle, hlive, hlegal, hi⟩
  obtain ⟨t, hdeliver, ht⟩ := hrun.after_turn .encrypt rsvd
  exact ⟨t, hdeliver, ht.ctr, ht.round⟩

/-- Settles O46: the round state after each turn, and what decryption steps of ENC(P, K) are. -/
theorem decryptRoundStates : Obligations.DecryptRoundStates := by
  intro p rsvd s pre j hidle hlive hdata hlegal hturns hj
  have hrun : AcceptedRun s pre := ⟨hidle, hlive, hlegal, by omega⟩
  obtain ⟨t, hdeliver, ht⟩ := hrun.after_turn .decrypt rsvd
  rw [hturns, hdata] at ht
  exact ⟨t, hdeliver, ht.ctr, ht.round.trans (roundState_opposite_transform .encrypt p s.key hj)⟩

/-! ### PARSE16 and FORMAT16 (R150) -/

/-- A binary string's number has the string's characters as its low bits, the last character lowest (R9), and the bits of
`acc` above them. -/
theorem testBit_binaryValue (cs : List Char) (acc i : Nat) :
    (binaryValue acc cs).testBit i =
      if i < cs.length then decide (cs[cs.length - 1 - i]? = some '1') else acc.testBit (i - cs.length) := by
  induction cs generalizing acc with
  | nil => rfl
  | cons c cs ih =>
    have hbit : 2 * acc + (if c == '1' then 1 else 0) = Nat.bit (c == '1') acc := by
      cases c == '1' <;> rfl
    rw [binaryValue, ih, hbit, List.length_cons]
    obtain hlt | rfl | hgt := Nat.lt_trichotomy i cs.length
    · have hindex : cs.length + 1 - 1 - i = cs.length - 1 - i + 1 := by omega
      rw [if_pos hlt, if_pos (by omega), hindex, List.getElem?_cons_succ]
    · rw [if_neg (lt_irrefl _), if_pos (Nat.lt_succ_self _), Nat.sub_self, Nat.testBit_bit_zero, Nat.add_sub_cancel,
        Nat.sub_self, List.getElem?_cons_zero]
      simp [beq_eq_decide]
    · have hindex : i - cs.length = i - (cs.length + 1) + 1 := by omega
      rw [if_neg (by omega), if_neg (by omega), hindex, Nat.testBit_bit_succ]

theorem isBinaryChar_iff {c : Char} : isBinaryChar c = true ↔ c = '0' ∨ c = '1' := by
  rw [isBinaryChar, Bool.or_eq_true, beq_iff_eq, beq_iff_eq]

/-- A 16-character binary string: what PARSE16 accepts. -/
structure IsBinary16 (s : List Char) : Prop where
  length : s.length = 16
  binary : ∀ c ∈ s, c = '0' ∨ c = '1'

theorem parse16_eq_some_iff {s : List Char} {v : Block} :
    parse16 s = some v ↔ IsBinary16 s ∧ BitVec.ofNat 16 (binaryValue 0 s) = v := by
  have hvalid : (s.length = 16 ∧ s.all isBinaryChar = true) ↔ IsBinary16 s := by
    rw [List.all_eq_true]
    simp only [isBinaryChar_iff]
    exact ⟨fun ⟨hlen, hbin⟩ => ⟨hlen, hbin⟩, fun h => ⟨h.length, h.binary⟩⟩
  rw [parse16, Option.ite_none_right_eq_some, hvalid, Option.some_inj]

/-- String position p is bit 15 - p. -/
theorem getLsbD_ofNat_binaryValue {s : List Char} (hlen : s.length = 16) {p : Nat} (hp : p < 16) :
    (BitVec.ofNat 16 (binaryValue 0 s)).getLsbD (15 - p) = true ↔ s[p]? = some '1' := by
  have hbit : 15 - p < 16 := by omega
  have hindex : 16 - 1 - (15 - p) = p := by omega
  rw [BitVec.getLsbD_ofNat, testBit_binaryValue, hlen, if_pos hbit, hindex]
  simp [hbit]

theorem length_format16 (v : Block) : (format16 v).length = 16 := by
  rw [format16, List.length_map, List.length_range]

theorem getElem?_format16 (v : Block) {p : Nat} (hp : p < 16) : (format16 v)[p]? = some (charAt v p) := by
  rw [format16, List.getElem?_map, List.getElem?_range hp, Option.map_some]

theorem charAt_eq_one_iff (v : Block) (p : Nat) : charAt v p = '1' ↔ v.getLsbD (15 - p) = true := by
  unfold charAt
  split <;> simp [*]

theorem charAt_binary (v : Block) (p : Nat) : charAt v p = '0' ∨ charAt v p = '1' := by
  unfold charAt
  split
  · exact .inr rfl
  · exact .inl rfl

theorem getElem?_format16_eq_one_iff (v : Block) {p : Nat} (hp : p < 16) :
    (format16 v)[p]? = some '1' ↔ v.getLsbD (15 - p) = true := by
  rw [getElem?_format16 v hp, Option.some_inj, charAt_eq_one_iff]

theorem isBinary16_format16 (v : Block) : IsBinary16 (format16 v) where
  length := length_format16 v
  binary := List.forall_mem_map.2 fun p _ => charAt_binary v p

/-- Of '0' and '1', a character is fixed by whether it is '1'. -/
theorem binaryChar_eq {c c' : Char} (hc : c = '0' ∨ c = '1') (hc' : c' = '0' ∨ c' = '1') (h : c = '1' ↔ c' = '1') :
    c = c' := by
  by_cases hone : c = '1'
  · rw [hone, h.1 hone]
  · rw [hc.resolve_right hone, hc'.resolve_right (mt h.2 hone)]

/-- A binary string is fixed by the positions of its '1'. -/
theorem IsBinary16.eq_of_ones {s s' : List Char} (hs : IsBinary16 s) (hs' : IsBinary16 s')
    (hones : ∀ p < 16, s[p]? = some '1' ↔ s'[p]? = some '1') : s = s' := by
  refine List.ext_getElem (hs.length.trans hs'.length.symm) fun p hp hp' => ?_
  have hone := hones p (hs.length ▸ hp)
  rw [List.getElem?_eq_getElem hp, List.getElem?_eq_getElem hp', Option.some_inj, Option.some_inj] at hone
  exact binaryChar_eq (hs.binary _ (List.getElem_mem hp)) (hs'.binary _ (List.getElem_mem hp')) hone

theorem format16_of_parse16 {s : List Char} {v : Block} (h : parse16 s = some v) : format16 v = s := by
  obtain ⟨hs, rfl⟩ := parse16_eq_some_iff.1 h
  refine (isBinary16_format16 _).eq_of_ones hs fun p hp => ?_
  rw [getElem?_format16_eq_one_iff _ hp, getLsbD_ofNat_binaryValue hs.length hp]

theorem parse16_format16 (v : Block) : parse16 (format16 v) = some v := by
  refine parse16_eq_some_iff.2 ⟨isBinary16_format16 v, BitVec.eq_of_getLsbD_eq fun i hi => ?_⟩
  have hindex : 15 - (15 - i) = i := by omega
  have hp : 15 - i < 16 := by omega
  rw [← hindex, Bool.eq_iff_iff, getLsbD_ofNat_binaryValue (length_format16 v) hp, getElem?_format16_eq_one_iff v hp]

/-- Settles O50: the bits of the parsed value are the characters, and those of FORMAT16's string the value's bits. -/
theorem parseAndFormatAreInverse : Obligations.ParseAndFormatAreInverse := by
  refine ⟨fun s => ⟨fun ⟨v, h⟩ => ?_, fun ⟨hlen, hbin⟩ => ?_⟩, fun s v h => ⟨fun p hp => ?_, format16_of_parse16 h⟩,
    fun v => ⟨parse16_format16 v, length_format16 v, fun p hp => getElem?_format16_eq_one_iff v hp⟩⟩
  · have hs := (parse16_eq_some_iff.1 h).1
    exact ⟨hs.length, hs.binary⟩
  · exact ⟨_, parse16_eq_some_iff.2 ⟨⟨hlen, hbin⟩, rfl⟩⟩
  · rw [← getElem?_format16_eq_one_iff v hp, format16_of_parse16 h]

/-! ### The adapter's validation (R151 to R153) -/

theorem adapterTransform_of_error {block key mode : List Char} {e : AdapterError}
    (h : validateInput block key mode = .error e) (parity : Bool) (sched : RunSchedule) (s : State) :
    adapterTransform parity sched block key mode s = some (failureResult parity e, s) := by
  rw [adapterTransform, h]

theorem validateInput_of_parse16_none {block key : List Char} (h : parse16 block = none ∨ parse16 key = none)
    (mode : List Char) : validateInput block key mode = .error .format := by
  cases hblock : parse16 block with
  | none => rw [validateInput, hblock]
  | some b =>
    have hkey : parse16 key = none := h.resolve_left (by simp [hblock])
    rw [validateInput, hblock, hkey]

theorem validateInput_of_parse16 {block key : List Char} {b k : Block} (hblock : parse16 block = some b)
    (hkey : parse16 key = some k) (mode : List Char) :
    validateInput block key mode = (parseMode mode).elim (.error .invalidMode) (fun d => .ok ⟨b, k, d⟩) := by
  rw [validateInput, hblock, hkey]
  cases parseMode mode <;> rfl

theorem parseMode_of_ne {mode : List Char} (henc : mode ≠ encryptMode) (hdec : mode ≠ decryptMode) :
    parseMode mode = none := by
  rw [parseMode, if_neg henc, if_neg hdec]

/-- Settles O51: validation fails first, and the answer then leaves the state as it is. -/
theorem failingTransformMakesNoAccess : Obligations.FailingTransformMakesNoAccess := by
  intro parity sched block key mode s
  refine ⟨fun h => ?_, fun b k hblock hkey henc hdec => ?_⟩
  · exact adapterTransform_of_error (validateInput_of_parse16_none h mode) parity sched s
  · have hvalidate : validateInput block key mode = .error .invalidMode := by
      rw [validateInput_of_parse16 hblock hkey, parseMode_of_ne henc hdec]
      rfl
    exact adapterTransform_of_error hvalidate parity sched s

/-! ### RUN on the machine (R90) -/

theorem writeOperand_zext32 (v : Block) : writeOperand (zext32 v) = v := by
  apply BitVec.eq_of_getLsbD_eq
  intro i hi
  have hword : i < 32 := by omega
  simp [writeOperand, zext32, hi, hword]

theorem wrLine_commandWord (d : Direction) : wrLine .cmd (commandWord d) = encode (commandOf d 0#30) := by
  cases d <;> rfl

theorem getLsbD_statusWord_zero (s : State) : (statusWord s).getLsbD 0 = s.busy := by
  rw [statusWord, BitVec.zeroExtend, BitVec.getLsbD_setWidth, BitVec.getLsbD_append]
  simp

section Load

variable {s : State}

/-- LOAD's write of KEY (R90), on an idle FTE. -/
theorem deliver_writeKeyAfter (hidle : s.busy = false) (hlive : s.Live) (k : Block) (turns : Nat) (rest : List Event) :
    deliver (accessAfter turns (wrLine .key (zext32 k)) ++ rest) s = deliver rest ((s.setKey k).respond .okay) := by
  refine deliver_accessAfter_of_idle (i := .wrKey (zext32 k)) hidle hlive rfl (fun es => ?_) turns rest
  change execWrKey (zext32 k) (s.withEvents es) = _
  rw [execWrKey, writeOperand_zext32]
  rfl

/-- LOAD's write of DATA_IN (R90), on an idle FTE. -/
theorem deliver_writeDataAfter (hidle : s.busy = false) (hlive : s.Live) (b : Block) (turns : Nat) (rest : List Event) :
    deliver (accessAfter turns (wrLine .dataIn (zext32 b)) ++ rest) s =
      deliver rest ((s.setDataIn b).respond .okay) := by
  refine deliver_accessAfter_of_idle (i := .wrDataIn (zext32 b)) hidle hlive rfl (fun es => ?_) turns rest
  change execWrDataIn (zext32 b) (s.withEvents es) = _
  rw [execWrDataIn, writeOperand_zext32]
  rfl

/-- The state after LOAD (R90). -/
def loaded (b k : Block) (s : State) : State := (((s.setKey k).respond .okay).setDataIn b).respond .okay

theorem deliver_load (hidle : s.busy = false) (hlive : s.Live) (b k : Block) (turns turns' : Nat) (rest : List Event) :
    deliver (accessAfter turns (wrLine .key (zext32 k)) ++ (accessAfter turns' (wrLine .dataIn (zext32 b)) ++ rest)) s =
      deliver rest (loaded b k s) :=
  (deliver_writeKeyAfter hidle hlive k turns _).trans
    (deliver_writeDataAfter (s := (s.setKey k).respond .okay) hidle hlive b turns' rest)

/-- A RUN up to its CMD write, on an idle FTE: the command is accepted with the RUN's operands. -/
theorem deliver_runPrefix (hidle : s.busy = false) (hlive : s.Live) (sched : RunSchedule) (d : Direction)
    (b k : Block) :
    ∃ t, deliver (runPrefix sched (commandWord d) b k) s = .next t ∧ CommandAt d b k s.result 0 t := by
  have hcmd := deliver_commandAfter (s := loaded b k s) hidle hlive d 0#30 sched.beforeCmd []
  rw [List.append_nil, deliver_nil] at hcmd
  rw [runPrefix, deliver_load hidle hlive, wrLine_commandWord, hcmd]
  exact ⟨_, rfl, (commandAt_acceptValid (s := loaded b k s) hlive d).withEvents []⟩

end Load

section Run

variable {d : Direction} {v key old : Block} {n : Nat} {s : State}

/-- A read after some turns of the engine shows its data of the state those turns lead to. -/
theorem CommandAt.deliver_read (h : CommandAt d v key old n s) {i : Instr} (hwf : i.wellFormed = true)
    {f : State → Word} (hread : ∀ u, exec i u = readReply (f u) u) (turns : Nat) :
    ∃ u, deliver (accessAfter turns (encode i)) s = .next (u.respond (.data (f u))) ∧
      CommandAt d v key old (min (n + turns) 4) u := by
  have hcount : engineTurns (List.replicate turns .engineTurn) = turns := List.count_replicate_self
  obtain ⟨u, hturns, hu⟩ := h.deliver_append (es := List.replicate turns .engineTurn) (by simp [Event.undisturbing])
    (fun ht hmem _ => by cases List.eq_of_mem_replicate hmem) [.access (encode i)]
  rw [hcount] at hu
  have hserve : serve (.access (encode i)) (u.withEvents []) = readReply (f (u.withEvents [])) (u.withEvents []) := by
    rw [serve_access_of_live (hu.withEvents []).live, decodeOfEncodeIsTheInstruction i hwf, hread]
  exact ⟨u.withEvents [], hturns.trans (deliver_cons_of_next hserve), hu.withEvents []⟩

/-- One turn of the WAIT loop: it ends where the turns before the STATUS read make the fourth round. -/
theorem CommandAt.waitLoop_cons (h : CommandAt d v key old n s) (turns : Nat) (polls : List Nat) :
    ∃ u, CommandAt d v key old (min (n + turns) 4) u ∧
      waitLoop (turns :: polls) s = if n + turns < 4 then waitLoop polls u else some u := by
  obtain ⟨u, hdeliver, hu⟩ := h.deliver_read (i := .rdStatus 0#32) rfl (f := statusWord) (fun _ => rfl) turns
  have hline : deliver (accessAfter turns (rdLine .status)) s = .next (u.respond (.data (statusWord u))) := hdeliver
  have hbusy : (statusWord u).getLsbD 0 = decide (n + turns < 4) := by
    rw [getLsbD_statusWord_zero, hu.busy]
    simp
  refine ⟨_, hu.respond (.data (statusWord u)), ?_⟩
  simp only [waitLoop, hline, State.respond_resp, readData, hbusy, decide_eq_true_eq]

/-- A WAIT that ends has seen the command completed. -/
theorem CommandAt.completed_of_waitLoop {polls : List Nat} {t : State} (h : CommandAt d v key old n s)
    (hwait : waitLoop polls s = some t) : CommandAt d v key old 4 t := by
  induction polls generalizing n s with
  | nil => cases hwait
  | cons turns polls ih =>
    obtain ⟨u, hu, hcons⟩ := h.waitLoop_cons turns polls
    rw [hcons] at hwait
    split at hwait
    case isTrue => exact ih hu hwait
    case isFalse hlast =>
      obtain rfl := Option.some.inj hwait
      rwa [min_eq_right (not_lt.1 hlast)] at hu

/-- A WAIT ends where the turns of the engine within its polls make the rounds that are left. -/
theorem CommandAt.waitLoop_ends {polls : List Nat} (h : CommandAt d v key old n s) (hn : n < 4)
    (hpolls : 4 ≤ n + polls.sum) : ∃ t, waitLoop polls s = some t := by
  induction polls generalizing n s with
  | nil => exact absurd hpolls (not_le.2 hn)
  | cons turns polls ih =>
    obtain ⟨u, hu, hcons⟩ := h.waitLoop_cons turns polls
    rw [hcons]
    split
    case isTrue hlt =>
      rw [min_eq_left hlt.le] at hu
      exact ih hu hlt (by rw [List.sum_cons] at hpolls; omega)
    case isFalse => exact ⟨u, rfl⟩

/-- The RESULT read after a WAIT that ended. -/
theorem CommandAt.deliver_readResult (h : CommandAt d v key old 4 s) (turns : Nat) :
    ∃ t, deliver (accessAfter turns (rdLine .result)) s = .next t ∧ t.busy = false ∧
      t.resp = .data (zext32 (transform d v key)) := by
  obtain ⟨u, hdeliver, hu⟩ := h.deliver_read (i := .rdResult 0#32) rfl (f := fun u => zext32 u.result) (fun _ => rfl) turns
  rw [min_eq_right (Nat.le_add_right 4 turns)] at hu
  exact ⟨_, hdeliver, hu.idle_of_completed, congrArg (fun x => Response.data (zext32 x)) hu.result⟩

end Run

/-- A RUN on an idle FTE reads the transform of its operands, unless its WAIT ends too early; four turns of the engine
within the polls are enough for it. -/
theorem runCommand_of_idle {s : State} (hidle : s.busy = false) (hlive : s.Live) (sched : RunSchedule) (d : Direction)
    (b k : Block) :
    (runCommand sched (commandWord d) b k s = none ∧ sched.polls.sum < 4) ∨
      ∃ t, runCommand sched (commandWord d) b k s = some (zext32 (transform d b k), t) ∧ t.busy = false := by
  obtain ⟨p, hrun, hp⟩ := deliver_runPrefix hidle hlive sched d b k
  cases hwait : waitLoop sched.polls p with
  | none =>
    refine .inl ⟨by simp only [runCommand, hrun, hwait], ?_⟩
    by_contra hpolls
    obtain ⟨u, hu⟩ := hp.waitLoop_ends (by decide) (polls := sched.polls) (by omega)
    rw [hwait] at hu
    cases hu
  | some u =>
    obtain ⟨t, hresult, ht, hresp⟩ := (hp.completed_of_waitLoop hwait).deliver_readResult sched.beforeResult
    exact .inr ⟨t, by simp only [runCommand, hrun, hwait, hresult, hresp, readData], ht⟩

/-! ### The Transform contract (R154) -/

theorem parseMode_of_direction (d : Direction) :
    parseMode (if d = .encrypt then encryptMode else decryptMode) = some d := by
  cases d <;> rfl

theorem adapterTransform_of_ok {block key mode : List Char} {i : AdapterInput}
    (h : validateInput block key mode = .ok i) (parity : Bool) (sched : RunSchedule) (s : State) :
    adapterTransform parity sched block key mode s =
      (runCommand sched (commandWord i.dir) i.block i.key s).map
        fun wt => (⟨.text (format16 (writeOperand wt.1)), false⟩, wt.2) := by
  rw [adapterTransform, h]
  cases hrun : runCommand sched (commandWord i.dir) i.block i.key s <;> simp only [hrun] <;> rfl

/-- Settles O52: valid strings make one RUN, whose word FORMAT16 writes out. -/
theorem transformContract : Obligations.TransformContract := by
  intro parity sched block key b k d s hidle hlive hblock hkey
  have hvalidate : validateInput block key (if d = .encrypt then encryptMode else decryptMode) = .ok ⟨b, k, d⟩ := by
    rw [validateInput_of_parse16 hblock hkey, parseMode_of_direction]
    rfl
  rw [adapterTransform_of_ok hvalidate]
  obtain ⟨hnone, hpolls⟩ | ⟨t, hsome, ht⟩ := runCommand_of_idle hidle hlive sched d b k
  · rw [hnone, Option.map_none]
    exact ⟨fun a t h => absurd h.symm (Option.some_ne_none (a, t)), fun hfour => absurd hpolls (not_lt.2 hfour)⟩
  · rw [hsome, Option.map_some, writeOperand_zext32]
    refine ⟨fun a t' h => ?_, fun _ => ⟨_, t, rfl, ht⟩⟩
    rw [← (Prod.mk.inj (Option.some.inj h)).1]

end Sys2Proof.CipherProofs
end

section
/-!
PROOFS about the register accesses (spec/42_register_access.md): what each legal access that is no CMD write answers and
leaves unchanged (R161 to R171), what the illegal accesses do (R172, R173), and the values STATUS takes and loses (R166,
R169).

An access is settled by the shared operation its meaning is: `readReply`, `writeReply` or `raiseBusError`, each with the
whole next state said once. Its encoding is read off the encoder by O2.
-/

namespace Sys2Proof.RegisterProofs

open Sys2Proof Sys2Proof.Machine Sys2Proof.StateProofs Sys2Proof.EncodingProofs Sys2Proof.CipherProofs

/-! ### The three answers of the bus (R160, R204, R205) -/

theorem readReply_eq (v : Word) (s : State) : readReply v s = .next { s with resp := .data v } := rfl

theorem writeReply_eq (s : State) : writeReply s = .next { s with resp := .okay } := rfl

theorem raiseBusError_of_unmarked {s : State} (hmark : s.faultMark = none) (e : BusError) :
    raiseBusError e s = .next { s with faultMark := some e, resp := .error } := by
  rw [raiseBusError, State.mark, hmark]
  rfl

/-- The decoder's answer to a descriptor is the well-formed instruction that has it as its encoding. -/
theorem decodeDescriptor_of_encode {i : Instr} {ht : Descriptor} (hwf : i.wellFormed = true) (henc : encode i = ht) :
    decodeDescriptor ht = i :=
  henc ▸ decodeOfEncodeIsTheInstruction i hwf

section Access

variable {i : Instr} {ht : Descriptor} {s : State}

theorem read_decodes_and_answers {v : Word} (hwf : i.wellFormed = true) (henc : encode i = ht)
    (hexec : exec i s = readReply v s) : decodeDescriptor ht = i ∧ exec i s = .next { s with resp := .data v } :=
  ⟨decodeDescriptor_of_encode hwf henc, hexec.trans (readReply_eq v s)⟩

/-- A write whose effect on the registers leads to `t`; the ignored writes have `t = s`. -/
theorem write_decodes_and_answers {t : State} (hwf : i.wellFormed = true) (henc : encode i = ht)
    (hexec : exec i s = writeReply t) : decodeDescriptor ht = i ∧ exec i s = .next { t with resp := .okay } :=
  ⟨decodeDescriptor_of_encode hwf henc, hexec.trans (writeReply_eq t)⟩

theorem illegal_decodes_and_marks {e : BusError} (hmark : s.faultMark = none) (hwf : i.wellFormed = true)
    (henc : encode i = ht) (hexec : exec i s = raiseBusError e s) :
    decodeDescriptor ht = i ∧ exec i s = .next { s with faultMark := some e, resp := .error } :=
  ⟨decodeDescriptor_of_encode hwf henc, hexec.trans (raiseBusError_of_unmarked hmark e)⟩

end Access

/-! ### Legal reads and writes (R161 to R171) -/

/-- Settles O7: each of the three is a read reply of its register. -/
theorem readsOfDataInStatusAndResult : Obligations.ReadsOfDataInStatusAndResult :=
  fun _ s => ⟨readReply_eq (zext32 s.dataIn) s, readReply_eq (statusWord s) s, readReply_eq (zext32 s.result) s⟩

/-- Settles O8: KEY is read as it is, and the others are read replies of zero. -/
theorem readsOfKeyCmdAndReserved : Obligations.ReadsOfKeyCmdAndReserved := by
  intro w s
  refine ⟨?key, ?cmd, ?rsvd14, ?rsvd18, ?rsvd1C⟩
  case key => exact read_decodes_and_answers (v := zext32 s.key) rfl rfl rfl
  all_goals exact read_decodes_and_answers (v := 0#32) rfl rfl rfl

/-- Settles O9: the operand of the write is WDATA[15:0], and no meaning looks at BUSY. -/
theorem writesOfDataInAndKey : Obligations.WritesOfDataInAndKey := by
  intro w s
  refine ⟨?dataIn, ?key⟩
  case dataIn => exact write_decodes_and_answers (t := s.setDataIn (writeOperand w)) rfl rfl rfl
  case key => exact write_decodes_and_answers (t := s.setKey (writeOperand w)) rfl rfl rfl

/-- Settles O10: each of the four is a write reply of the state as it is. -/
theorem writesOfResultAndReservedAreIgnored : Obligations.WritesOfResultAndReservedAreIgnored := by
  intro w s
  refine ⟨?result, ?rsvd14, ?rsvd18, ?rsvd1C⟩
  all_goals exact write_decodes_and_answers (t := s) rfl rfl rfl

/-! ### Illegal accesses (R172, R173) -/

/-- Settles O16: an access of a wrong size is well-formed whatever its other fields are, and raises BusError. -/
theorem wrongSizeRaisesBusError : Obligations.WrongSizeRaisesBusError := by
  intro we off w s hmark
  refine ⟨?size8, ?size16, ?sizeOther⟩
  all_goals exact illegal_decodes_and_marks hmark rfl rfl rfl

/-- Settles O17: the low bits of OFF are what makes a misaligned row well-formed; its meaning does not look at them. -/
theorem misalignedAccessRaisesBusError : Obligations.MisalignedAccessRaisesBusError := by
  intro we off w s hmark
  refine ⟨fun hodd => ?odd, fun heven htwo => ?two, ?execOdd, ?execTwo⟩
  case odd => exact decodeDescriptor_of_encode (i := .busErrAlignOdd we off w) hodd rfl
  case two =>
    exact decodeDescriptor_of_encode (i := .busErrAlign2 we off w) (wellFormed_busErrAlign2_iff.2 ⟨heven, htwo⟩) rfl
  all_goals exact raiseBusError_of_unmarked hmark ⟨we, .bits32, off⟩

/-! ### What clears DONE and ERR (R169) -/

/-- From `s` to `t` DONE goes from 1 to 0, or ERR from another code to NONE. -/
def OutcomeCleared (s t : State) : Prop := (s.done = true ∧ t.done = false) ∨ (s.err ≠ .none ∧ t.err = .none)

theorem not_outcomeCleared {s t : State} (hdone : s.done = true → t.done = true) (herr : t.err = s.err) :
    ¬ OutcomeCleared s t := by
  rintro (⟨hset, hclear⟩ | ⟨hset, hclear⟩)
  · simp [hdone hset] at hclear
  · exact hset (herr ▸ hclear)

/-- What can clear DONE or ERR, of all that one event can do: a reset, and a CMD write that is not dropped. -/
theorem event_of_outcomeCleared {e : Event} {s t : State} (h : EventEffect s e t) (hcleared : OutcomeCleared s t) :
    e = .reset none ∨ ∃ ht, e = .access ht ∧ isCmdWrite (decodeDescriptor ht) = true ∧ s.busy = false := by
  cases h with
  | reset => exact .inl rfl
  | keep _ hkeep => exact absurd hcleared (not_outcomeCleared hkeep.done.trans hkeep.err)
  | accept _ hstart hidle => exact .inr ⟨_, rfl, isCmdWrite_of_startsCipher hstart, hidle⟩
  | reject hcmd _ hidle => exact .inr ⟨_, rfl, hcmd, hidle⟩
  | idleTurn _ => exact absurd hcleared (not_outcomeCleared id rfl)
  | round _ _ => exact absurd hcleared (not_outcomeCleared id rfl)
  | complete _ _ => exact absurd hcleared (not_outcomeCleared (fun _ => rfl) rfl)

/-- Settles O11: WR_STATUS is a write reply of the state as it is, and the event that clears DONE or ERR is no turn of the
engine, so it is the first pending one. -/
theorem statusIsClearedOnlyByACommandOrReset : Obligations.StatusIsClearedOnlyByACommandOrReset := by
  refine ⟨fun w s => write_decodes_and_answers rfl rfl rfl, fun s t h hcleared => ?_⟩
  obtain he | ⟨ht, he, hcmd, hidle⟩ := event_of_outcomeCleared (step_effect h) hcleared
  · exact .inl (events_eq_cons_of_nextEvent he nofun)
  · obtain ⟨es, hes⟩ := events_eq_cons_of_nextEvent he nofun
    exact .inr ⟨ht, es, hes, hcmd, hidle⟩

/-! ### The values STATUS reads as (R166, R36) -/

/-- STATUS while a command is in flight (R36). -/
theorem statusWord_of_busy {s : State} (hbusy : s.busy = true) (hdone : s.done = false) (herr : s.err = .none) :
    statusWord s = 0x00000001#32 := by
  rw [statusWord, hbusy, hdone, herr]
  rfl

/-- STATUS of an idle FTE with no error: after reset, or with the last command completed. -/
theorem statusWord_of_idle {s : State} (hidle : s.busy = false) (herr : s.err = .none) :
    statusWord s = if s.done then 0x00000002#32 else 0x00000000#32 := by
  rw [statusWord, hidle, herr]
  cases s.done <;> rfl

/-- The invariant of R36 leaves four values of the flags: BUSY = 1 stands alone, and an error stands only with DONE = 1. -/
theorem statusWord_mem_of_inv {s : State} (hinv : s.Inv) :
    statusWord s ∈ [0x00000000#32, 0x00000001#32, 0x00000002#32, 0x0000000A#32] := by
  obtain ⟨busy_imp, -, err_imp, -, -⟩ := hinv
  cases hbusy : s.busy
  case true =>
    obtain ⟨-, hdone, herr⟩ := busy_imp hbusy
    simp [statusWord_of_busy hbusy hdone herr]
  case false =>
    by_cases herr : s.err = .none
    · rw [statusWord_of_idle hbusy herr]
      cases s.done <;> simp
    · obtain ⟨hdone, hmode⟩ := err_imp herr
      simp [statusWord_of_invalidMode hbusy hdone hmode]

/-- What some events delivered after reset lead to is reachable. -/
theorem reachable_of_deliver {es : List Event} {t : State} (h : deliver es State.reset = .next t) : Reachable t :=
  ⟨es.length, es, h⟩

/-- An ENCRYPT accepted after reset. -/
def encryptAfterReset : List Event := [.access (encode (.encrypt 0#30))]

/-- Settles O35: R36's invariant bounds the values, and each is reached: at reset, by an ENCRYPT, by its fourth round, and
by an invalid mode. -/
theorem statusReadsExactlyFourValues : Obligations.StatusReadsExactlyFourValues := by
  intro v
  refine ⟨fun ⟨t, hreach, hword⟩ => hword ▸ statusWord_mem_of_inv (inv_of_reachable hreach), fun hv => ?_⟩
  simp only [List.mem_cons, List.not_mem_nil, or_false] at hv
  obtain rfl | rfl | rfl | rfl := hv
  · exact ⟨_, reachable_of_deliver (es := []) rfl, rfl⟩
  · exact ⟨_, reachable_of_deliver (es := encryptAfterReset) rfl, rfl⟩
  · exact ⟨_, reachable_of_deliver (es := encryptAfterReset ++ List.replicate 4 .engineTurn) rfl, rfl⟩
  · exact ⟨_, reachable_of_deliver (es := [.access (encode (.invalidMode11 0#30))]) rfl, rfl⟩

end Sys2Proof.RegisterProofs
end

section
/-!
PROOFS about the exceptions (spec/60_exceptions.md): the fault mark of a BusError, which the first illegal access sets and
nothing clears (R205), and that an unmarked state goes on, with an error only where R203 names one.

`exec_of_raisesBusError` says what every illegal access does, `exec_of_legal` how every legal one is answered; what a step
does to the mark and to ERR is a case split over `serve_next` and `EventEffect`.
-/

namespace Sys2Proof.ExceptionProofs

open Sys2Proof Sys2Proof.Machine Sys2Proof.StateProofs Sys2Proof.MemoryProofs Sys2Proof.EncodingProofs
open Sys2Proof.CipherProofs

/-! ### Accesses that raise BusError (R205) -/

/-- What the fault mark records of the access with this descriptor. -/
def recordedAccess (ht : Descriptor) : BusError := ⟨descWe ht, sizeOfCode (descSize ht), descOff ht⟩

@[simp] theorem recordedAccess_encodeFields (we : Bool) (size : AccessSize) (off : BitVec 5) (w : Word) :
    recordedAccess (encodeFields we size off w) = ⟨we, size, off⟩ := by
  simp [recordedAccess]

/-- An illegal access raises BusError with the fields of its own descriptor, well-formed or not. -/
theorem exec_of_raisesBusError {i : Instr} (h : raisesBusError i = true) (s : State) :
    exec i s = raiseBusError (recordedAccess (encode i)) s := by
  cases i with
  | busErrSize8 we off w | busErrSize16 we off w | busErrSizeOther we off w | busErrAlignOdd we off w
  | busErrAlign2 we off w =>
    rw [encode, recordedAccess_encodeFields]
    rfl
  | _ => cases h

theorem mark_of_marked {s : State} {e : BusError} (hmark : s.faultMark = some e) (e' : BusError) : s.mark e' = s := by
  rw [State.mark, hmark, Option.getD_some, ← hmark]

/-- Settles O18: an illegal access marks and answers with an error, and a mark that stands stays. -/
theorem standingFaultMarkIsKept : Obligations.StandingFaultMarkIsKept := by
  intro i e s hillegal hmark
  rw [exec_of_raisesBusError hillegal, raiseBusError, mark_of_marked hmark]
  rfl

/-! ### The fault mark along a step (R205) -/

theorem serve_access_next {ht : Descriptor} {s t : State} (h : serve (.access ht) s = .next t) :
    exec (decodeDescriptor ht) s = .next t := by
  obtain ⟨he, -⟩ | ⟨ht', he, -, hexec⟩ | ⟨he, -⟩ := serve_next h
  · cases he
  · cases he
    exact hexec
  · cases he

/-- An unmarked state's illegal access leaves the mark of that access. -/
theorem faultMark_of_illegal_access {ht : Descriptor} {s t : State} (hmark : s.faultMark = none)
    (hillegal : raisesBusError (decodeDescriptor ht) = true) (h : exec (decodeDescriptor ht) s = .next t) :
    t.faultMark = some (recordedAccess ht) := by
  rw [exec_of_raisesBusError hillegal, (decodeDescriptor_isEncodedBy ht).encode_eq] at h
  simp [raiseBusError_next h, hmark]

theorem stopReason_of_marked {s : State} {e : BusError} (hmark : s.faultMark = some e) :
    stopReason s = some (.pastBusError e) := by
  rw [stopReason, hmark]

/-- Where a mark stands only a reset cycle has a next state, and it keeps the mark. -/
theorem serve_keeps_standing_mark {ev : Event} {s t : State} {e : BusError} (hmark : s.faultMark = some e)
    (h : serve ev s = .next t) : t.faultMark = some e := by
  have hstop : stopReason s ≠ none := by simp [stopReason_of_marked hmark]
  obtain ⟨-, rfl⟩ | ⟨_, -, hlive, -⟩ | ⟨-, hlive, -⟩ := serve_next h
  · exact hmark
  · exact absurd hlive hstop
  · exact absurd hlive hstop

/-- Settles O19: the mark is set with the access's fields, stands from then on, and is a reason to stop. -/
theorem faultMarkIsNeverCleared : Obligations.FaultMarkIsNeverCleared := by
  refine ⟨fun s t ht es hmark hev hillegal h => ?set, fun s t e hmark h => ?kept, fun s e hmark => ⟨?notFinal, ?stops⟩⟩
  case set =>
    rw [step_cons hev] at h
    exact faultMark_of_illegal_access (s := s.withEvents es) hmark hillegal (serve_access_next h)
  case kept => exact serve_keeps_standing_mark (s := s.withEvents (nextEvent s.events).2) hmark h
  case notFinal =>
    rintro ⟨-, -, hnone⟩
    cases hmark.symm.trans hnone
  case stops => exact step_of_stopReason (stopReason_of_marked hmark)

/-- Settles O28: the reset cycle of the state with that event taken off, written out. -/
theorem resetCycleKeepsTheFaultMark : Obligations.ResetCycleKeepsTheFaultMark := by
  intro s es hev
  calc step s = serve (.reset none) (s.withEvents es) := step_cons hev
    _ = .next (resetCycle (s.withEvents es)) := rfl

/-! ### Events without an error (R203) -/

/-- The access that led from `s` to `t` set no mark and got no error response. -/
structure AnsweredWithoutError (s t : State) : Prop where
  faultMark : t.faultMark = s.faultMark
  resp : t.resp ≠ .error

theorem cmdWrite_answers {f : State → State} (hf : ∀ s, (f s).faultMark = s.faultMark) (s : State) :
    ∃ t, cmdWrite f s = .next t ∧ AnsweredWithoutError s t := by
  cases hbusy : s.busy with
  | true => exact ⟨_, cmdWrite_of_busy f hbusy, rfl, nofun⟩
  | false => exact ⟨_, cmdWrite_of_idle f hbusy, hf s.clearOutcome, nofun⟩

/-- A legal access is answered OKAY, busy or not (R203, R140). -/
theorem exec_of_legal {i : Instr} (h : raisesBusError i = false) (s : State) :
    ∃ t, exec i s = .next t ∧ AnsweredWithoutError s t := by
  cases i with
  | rdDataIn _ | rdKey _ | rdCmd _ | rdStatus _ | rdResult _ | rdRsvd14 _ | rdRsvd18 _ | rdRsvd1C _ | wrDataIn _ | wrKey _
  | wrStatus _ | wrResult _ | wrRsvd14 _ | wrRsvd18 _ | wrRsvd1C _ => exact ⟨_, rfl, rfl, nofun⟩
  | encrypt _ => exact cmdWrite_answers (f := acceptValid .encrypt) (fun _ => rfl) s
  | decrypt _ => exact cmdWrite_answers (f := acceptValid .decrypt) (fun _ => rfl) s
  | invalidMode00 _ | invalidMode11 _ => exact cmdWrite_answers (f := raiseInvalidMode) (fun _ => rfl) s
  | busErrSize8 _ _ _ | busErrSize16 _ _ _ | busErrSizeOther _ _ _ | busErrAlignOdd _ _ _ | busErrAlign2 _ _ _ => cases h

theorem answeredWithoutError_of_exec {i : Instr} {s t : State} (hlegal : raisesBusError i = false)
    (h : exec i s = .next t) : AnsweredWithoutError s t := by
  obtain ⟨u, hexec, hanswer⟩ := exec_of_legal hlegal s
  cases hexec.symm.trans h
  exact hanswer

theorem exec_has_next (i : Instr) (s : State) : ∃ t, exec i s = .next t := by
  cases hi : raisesBusError i with
  | true => exact ⟨_, exec_of_raisesBusError hi s⟩
  | false =>
    obtain ⟨t, hexec, -⟩ := exec_of_legal hi s
    exact ⟨t, hexec⟩

theorem engineTurn_faultMark {s t : State} (h : engineTurn s = .next t) : t.faultMark = s.faultMark := by
  obtain ⟨-, rfl⟩ | ⟨-, hround⟩ := engineTurn_next h
  · rfl
  · obtain ⟨-, rfl⟩ | ⟨-, rfl⟩ := engineRound_next hround <;> rfl

/-- The engine's turn stops only on a busy FTE with CTR above 3, which R36 excludes. -/
theorem engineTurn_has_next {s : State} (hinv : s.Inv) : ∃ t, engineTurn s = .next t := by
  cases hbusy : s.busy with
  | false => exact ⟨s, engineTurn_of_idle hbusy⟩
  | true =>
    obtain ⟨hbusy_imp, -⟩ := hinv
    obtain ⟨hctr, -, -⟩ := hbusy_imp hbusy
    obtain hlt | heq := Nat.lt_or_eq_of_le hctr
    · exact ⟨_, engineTurn_of_ctr_lt hbusy hlt⟩
    · exact ⟨_, engineTurn_of_ctr_eq hbusy heq⟩

/-- Only R230's access in a reset cycle has no next state. -/
theorem serve_has_next {s : State} (hinv : s.Inv) (hmark : s.faultMark = none) {e : Event}
    (he : ∀ ht, e ≠ .reset (some ht)) : ∃ t, serve e s = .next t := by
  have hlive : s.Live := live_of_inv hinv hmark
  cases e with
  | access ht =>
    rw [serve_access_of_live hlive]
    exact exec_has_next _ s
  | engineTurn =>
    rw [serve_engineTurn_of_live hlive]
    exact engineTurn_has_next hinv
  | reset during =>
    cases during with
    | none => exact ⟨resetCycle s, rfl⟩
    | some ht => exact absurd rfl (he ht)

theorem serve_faultMark_of_legal {e : Event} {s t : State} (h : serve e s = .next t)
    (hlegal : ∀ ht, e = .access ht → raisesBusError (decodeDescriptor ht) = false) : t.faultMark = s.faultMark := by
  obtain ⟨-, rfl⟩ | ⟨ht, he, -, hexec⟩ | ⟨-, -, hturn⟩ := serve_next h
  · rfl
  · exact (answeredWithoutError_of_exec (hlegal ht he) hexec).faultMark
  · exact engineTurn_faultMark hturn

/-- Of all that one event can do, only an invalid mode records an error in ERR. -/
theorem err_of_effect {e : Event} {s t : State} (h : EventEffect s e t)
    (hvalid : ∀ ht, e = .access ht → isCmdWrite (decodeDescriptor ht) = true → startsCipher (decodeDescriptor ht) = true) :
    t.err = s.err ∨ t.err = .none := by
  cases h with
  | reset => exact .inr rfl
  | keep _ hkeep => exact .inl hkeep.err
  | accept _ _ _ => exact .inr rfl
  | reject hcmd hstart _ => cases hstart.symm.trans (hvalid _ rfl hcmd)
  | idleTurn _ => exact .inl rfl
  | round _ _ => exact .inl rfl
  | complete _ _ => exact .inl rfl

/-- Settles O36: an access that comes next is the first pending event, so what is said of the pending events holds of the
event that is served. -/
theorem unmarkedStatesHaveAStep : Obligations.UnmarkedStatesHaveAStep := by
  intro s hinv hmark hreset
  have hduring : ∀ ht, (nextEvent s.events).1 ≠ .reset (some ht) := fun ht he => by
    obtain ⟨es, hev⟩ := events_eq_cons_of_nextEvent he nofun
    exact hreset ht es hev
  obtain ⟨t, hstep⟩ := serve_has_next (s := s.withEvents (nextEvent s.events).2) hinv hmark hduring
  refine ⟨t, hstep, fun hlegal => ?mark, fun ht es hev hlegal => ?resp, fun hvalid => ?err⟩
  case mark =>
    refine (serve_faultMark_of_legal hstep fun ht he => ?_).trans hmark
    obtain ⟨es, hev⟩ := events_eq_cons_of_nextEvent he nofun
    exact hlegal ht es hev
  case resp =>
    rw [hev] at hstep
    exact (answeredWithoutError_of_exec hlegal (serve_access_next hstep)).resp
  case err =>
    refine err_of_effect (s := s.withEvents (nextEvent s.events).2) (serve_effect hstep) fun ht he => ?_
    obtain ⟨es, hev⟩ := events_eq_cons_of_nextEvent he nofun
    exact hvalid ht es hev

end Sys2Proof.ExceptionProofs
end

section
/-!
PROOFS about reset and hazards (spec/70_reset_and_hazards.md): the state after reset (R230, R231), the recommended order of
use (R236, R240), and where the rounds of a command fall in clock cycles (R245, R246).

A command found in flight is a `CommandAt` for some operands, since each round has an inverse; so the first WAIT of the
recommended use is the WAIT of a RUN. In clock cycles `roundsBefore` counts the rounds, and `InCycle` ties it to the
state at the start of each cycle; R245 is then arithmetic about `roundsBefore`.
-/

namespace Sys2Proof.HazardProofs

open Sys2Proof Sys2Proof.Machine Sys2Proof.StateProofs Sys2Proof.MemoryProofs Sys2Proof.EncodingProofs
open Sys2Proof.DatapathProofs Sys2Proof.CipherProofs Sys2Proof.ExceptionProofs

/-! ### Reset (R230, R231) -/

/-- Settles O29: each read is a read reply of a register that is 0 after reset, and an idle FTE accepts both commands. -/
theorem afterResetRegistersReadZero : Obligations.AfterResetRegistersReadZero := by
  intro w rsvd i hi
  have haccepted : ∀ d, ∃ t, cmdWrite (acceptValid d) State.reset = .next t ∧ t.busy = true :=
    fun d => ⟨_, cmdWrite_of_idle (acceptValid d) rfl, rfl⟩
  refine ⟨?reads, haccepted .encrypt, haccepted .decrypt⟩
  obtain rfl | rfl | rfl | rfl | rfl := hi <;> rfl

/-- Settles O30: the reset cycle comes next, and serving it with an access in it is the refusal. -/
theorem accessDuringResetIsRefused : Obligations.AccessDuringResetIsRefused :=
  fun _ _ _ hev => step_cons hev

/-! ### A command found in flight (R36, R114) -/

theorem entryHalves_surjective (d : Direction) (lr : Half × Half) : ∃ v, entryHalves d v = lr := by
  have hentry := entryHalves_opposite_exitBlock (opposite d) lr.swap
  cases d <;> exact ⟨_, hentry⟩

/-- Every round state comes from some input Block, since ROUND has an inverse (R114). -/
theorem roundState_surjective (d : Direction) (key : Block) (n : Nat) (lr : Half × Half) :
    ∃ v, roundState d v key n = lr := by
  induction n generalizing lr with
  | zero =>
    obtain ⟨v, hv⟩ := entryHalves_surjective d lr
    exact ⟨v, (roundState_zero d v key).trans hv⟩
  | succ n ih =>
    obtain ⟨v, hv⟩ := ih (feistelRound lr.swap (ksel d (n + 1) (subkey1 key) (subkey2 key))).swap
    refine ⟨v, ?_⟩
    rw [roundState_succ, hv, feistelRound_swap_feistelRound, Prod.swap_swap]

/-- Every busy state of R36 is one of a command in flight, with some operands. -/
theorem exists_commandAt_of_busy {s : State} (hinv : s.Inv) (hmark : s.faultMark = none) (hbusy : s.busy = true) :
    ∃ v key, s.ctr.toNat < 4 ∧ CommandAt s.dir v key s.result s.ctr.toNat s := by
  obtain ⟨hbusy_imp, -⟩ := hinv
  obtain ⟨hctr, hdone, herr⟩ := hbusy_imp hbusy
  have hlt : s.ctr.toNat < 4 := Nat.lt_succ_of_le hctr
  obtain ⟨v, hround⟩ := roundState_surjective s.dir (combine s.sk1 s.sk2) s.ctr.toNat (s.l, s.r)
  have hsplit := split16_combine s.sk1 s.sk2
  exact ⟨v, combine s.sk1 s.sk2, hlt, {
    le_four := hlt.le
    busy := hbusy.trans (decide_eq_true hlt).symm
    done := hdone.trans (decide_eq_false hlt.ne).symm
    err := herr
    unmarked := hmark
    sk1 := (congrArg Prod.fst hsplit).symm
    sk2 := (congrArg Prod.snd hsplit).symm
    dir := rfl
    ctr := rfl
    round := hround.symm
    result := (if_pos hlt).symm }⟩

/-! ### The two waits (R90, R240) -/

/-- A WAIT on an idle FTE ends with its first STATUS read. -/
theorem waitLoop_of_idle {s : State} (hidle : s.busy = false) (hlive : s.Live) (turns : Nat) (polls : List Nat) :
    waitLoop (turns :: polls) s = some ((s.respond (.data (statusWord s))).withEvents []) := by
  have hread : deliver (accessAfter turns (rdLine .status)) s =
      .next ((s.respond (.data (statusWord s))).withEvents []) := by
    have hdeliver := deliver_accessAfter_of_idle (i := .rdStatus 0#32) (t := s.respond (.data (statusWord s)))
      hidle hlive rfl (fun _ => rfl) turns []
    rwa [List.append_nil, deliver_nil] at hdeliver
  have hbit : (statusWord s).getLsbD 0 = false := (getLsbD_statusWord_zero s).trans hidle
  simp only [waitLoop, hread, State.withEvents_resp, State.respond_resp, readData, hbit, Bool.false_eq_true, if_false]

/-- A WAIT on a state of R36 leaves the FTE idle, unless it ends too early; four turns of the engine within its polls are
enough for it. -/
theorem waitLoop_of_inv {s : State} (hinv : s.Inv) (hmark : s.faultMark = none) (polls : List Nat) :
    (waitLoop polls s = none ∧ polls.sum < 4) ∨ ∃ t, waitLoop polls s = some t ∧ t.busy = false ∧ t.Live := by
  cases hbusy : s.busy with
  | true =>
    obtain ⟨v, key, hctr, hcommand⟩ := exists_commandAt_of_busy hinv hmark hbusy
    cases hwait : waitLoop polls s with
    | none =>
      refine .inl ⟨rfl, ?_⟩
      by_contra hpolls
      obtain ⟨t, ht⟩ := hcommand.waitLoop_ends hctr (polls := polls) (by omega)
      cases hwait.symm.trans ht
    | some t =>
      have hcompleted := hcommand.completed_of_waitLoop hwait
      exact .inr ⟨t, rfl, hcompleted.idle_of_completed, hcompleted.live⟩
  | false =>
    have hlive := live_of_inv hinv hmark
    cases polls with
    | nil => exact .inl ⟨rfl, by decide⟩
    | cons turns polls => exact .inr ⟨_, waitLoop_of_idle hbusy hlive turns polls, hbusy, hlive⟩

/-- A STATUS read shows STATUS as it stands after the read. -/
theorem resp_of_statusRead {turns : Nat} {s t : State} (h : deliver (accessAfter turns (rdLine .status)) s = .next t) :
    t.resp = .data (statusWord t) := by
  induction turns generalizing s with
  | zero =>
    obtain ⟨u, hserve, hnil⟩ := deliver_cons_next h
    have hexec := serve_access_next hserve
    rw [show decodeDescriptor (rdLine .status) = .rdStatus 0#32 from
      decodeOfEncodeIsTheInstruction (.rdStatus 0#32) rfl] at hexec
    cases readReply_next hexec
    cases hnil
    rfl
  | succ turns ih =>
    obtain ⟨u, -, hrest⟩ := deliver_cons_next h
    exact ih hrest

theorem resp_of_waitLoop {polls : List Nat} {s t : State} (h : waitLoop polls s = some t) :
    t.resp = .data (statusWord t) := by
  induction polls generalizing s with
  | nil => cases h
  | cons turns polls ih =>
    rw [waitLoop] at h
    split at h
    case h_1 u hread =>
      rw [resp_of_statusRead hread, readData] at h
      dsimp only at h
      split at h
      · exact ih h
      · cases h
        exact resp_of_statusRead hread
    all_goals cases h

/-! ### The recommended use (R236) -/

/-- A use ends with `a` or not at all, and it ends where its schedule is long enough. -/
def EndsWith (a : UseResult) (enough : Prop) (x : Option (UseResult × State)) : Prop :=
  (x = none ∧ ¬ enough) ∨ ∃ t, x = some (a, t)

theorem EndsWith.only {a a' : UseResult} {enough : Prop} {x : Option (UseResult × State)} {t : State}
    (h : EndsWith a enough x) (hx : x = some (a', t)) : a' = a := by
  obtain ⟨hnone, -⟩ | ⟨u, hsome⟩ := h
  · cases hnone.symm.trans hx
  · cases hsome.symm.trans hx
    rfl

theorem EndsWith.ends {a : UseResult} {enough : Prop} {x : Option (UseResult × State)} (h : EndsWith a enough x)
    (henough : enough) : ∃ a' t, x = some (a', t) := by
  obtain ⟨-, hnot⟩ | ⟨t, hsome⟩ := h
  · exact absurd henough hnot
  · exact ⟨a, t, hsome⟩

/-- ERR as STATUS shows it (R26). -/
theorem extractLsb'_statusWord_err (s : State) : (statusWord s).extractLsb' 2 2 = s.err.bits := by
  rw [statusWord]
  cases s.err <;> cases s.done <;> cases s.busy <;> rfl

/-- The CMD write of an invalid mode (R85). -/
theorem wrLine_invalidMode {m : Word} (hm : m.extractLsb' 0 2 = 0b00#2 ∨ m.extractLsb' 0 2 = 0b11#2) :
    wrLine .cmd m = encode (.invalidMode00 (m.extractLsb' 2 30)) ∨
      wrLine .cmd m = encode (.invalidMode11 (m.extractLsb' 2 30)) := by
  have hline : wrLine .cmd m = encodeCommand (m.extractLsb' 0 2) (m.extractLsb' 2 30) :=
    congrArg (encodeWrite 0x08#5) (eq_commandWord m)
  obtain hmode | hmode := hm
  · rw [hmode] at hline
    exact .inl hline
  · rw [hmode] at hline
    exact .inr hline

section Use

variable {idlePolls : List Nat} {sched : RunSchedule} {m : Word} {b k : Block} {s s₀ : State}

/-- An invalid CMD write on an idle FTE, after some turns of the engine (R139). -/
theorem deliver_invalidAfter (hidle : s.busy = false) (hlive : s.Live) {i : Instr} (hwf : i.wellFormed = true)
    (hexec : ∀ u, exec i u = cmdWrite raiseInvalidMode u) (turns : Nat) :
    deliver (accessAfter turns (encode i)) s =
      .next (((raiseInvalidMode s.clearOutcome).respond .okay).withEvents []) := by
  have hdeliver := deliver_accessAfter_of_idle (t := (raiseInvalidMode s.clearOutcome).respond .okay) hidle hlive hwf
    (fun es => (hexec _).trans (cmdWrite_of_idle (s := s.withEvents es) raiseInvalidMode hidle)) turns []
  rwa [List.append_nil, deliver_nil] at hdeliver

/-- A RUN up to its CMD write of an invalid mode, on an idle FTE: the FTE stays idle, with the error in ERR. -/
theorem deliver_runPrefix_invalid (hidle : s.busy = false) (hlive : s.Live) (sched : RunSchedule) (b k : Block)
    (hm : m.extractLsb' 0 2 = 0b00#2 ∨ m.extractLsb' 0 2 = 0b11#2) :
    ∃ t, deliver (runPrefix sched m b k) s = .next t ∧ t.busy = false ∧ t.Live ∧ t.err = .invalidMode := by
  refine ⟨((raiseInvalidMode (loaded b k s).clearOutcome).respond .okay).withEvents [], ?_, hidle, ?_, rfl⟩
  · rw [runPrefix, deliver_load hidle hlive]
    obtain hline | hline := wrLine_invalidMode hm <;> rw [hline]
    all_goals exact deliver_invalidAfter (s := loaded b k s) hidle hlive rfl (fun _ => rfl) sched.beforeCmd
  · exact stopReason_eq_none.2 ⟨(stopReason_eq_none.1 hlive).1, .inr rfl⟩

/-- With a valid mode, after a first wait that left the FTE idle. -/
theorem recommendedUse_valid (hfirst : waitLoop idlePolls s = some s₀) (hidle : s₀.busy = false) (hlive : s₀.Live)
    (d : Direction) :
    EndsWith (.value (zext32 (transform d b k))) (4 ≤ sched.polls.sum)
      (recommendedUse idlePolls sched (commandWord d) b k s) := by
  obtain ⟨t, hprefix, ht⟩ := deliver_runPrefix hidle hlive sched d b k
  cases hwait : waitLoop sched.polls t with
  | none =>
    refine .inl ⟨by simp only [recommendedUse, hfirst, hprefix, hwait], fun hpolls => ?_⟩
    obtain ⟨u, hu⟩ := ht.waitLoop_ends (by decide) (polls := sched.polls) (by omega)
    cases hwait.symm.trans hu
  | some u =>
    have hcompleted := ht.completed_of_waitLoop hwait
    have herr : (statusWord u).extractLsb' 2 2 = 0b00#2 := by rw [extractLsb'_statusWord_err, hcompleted.err]; rfl
    obtain ⟨w, hresult, -, hresp⟩ := hcompleted.deliver_readResult sched.beforeResult
    exact .inr ⟨w, by
      simp only [recommendedUse, hfirst, hprefix, hwait, resp_of_waitLoop hwait, readData, herr, if_pos, hresult, hresp]⟩

/-- With an invalid mode, after a first wait that left the FTE idle. -/
theorem recommendedUse_invalid (hfirst : waitLoop idlePolls s = some s₀) (hidle : s₀.busy = false) (hlive : s₀.Live)
    (hm : m.extractLsb' 0 2 = 0b00#2 ∨ m.extractLsb' 0 2 = 0b11#2) :
    EndsWith (.error 0b10#2) (sched.polls ≠ []) (recommendedUse idlePolls sched m b k s) := by
  obtain ⟨t, hprefix, htidle, htlive, hterr⟩ := deliver_runPrefix_invalid hidle hlive sched b k hm
  cases hpolls : sched.polls with
  | nil => exact .inl ⟨by simp only [recommendedUse, hfirst, hprefix, hpolls, waitLoop], fun hne => hne rfl⟩
  | cons turns polls =>
    have hwait := waitLoop_of_idle htidle htlive turns polls
    have herr : (statusWord t).extractLsb' 2 2 = 0b10#2 := by rw [extractLsb'_statusWord_err, hterr]; rfl
    refine .inr ⟨(t.respond (.data (statusWord t))).withEvents [], ?_⟩
    simp only [recommendedUse, hfirst, hprefix, hpolls, hwait, State.withEvents_resp, State.respond_resp, readData, herr]
    rfl

/-- The first wait, and then the use on the idle FTE it leaves. -/
theorem recommendedUse_of_inv (hinv : s.Inv) (hmark : s.faultMark = none) {a : UseResult} {enough : Prop}
    (hrest : ∀ s₀, waitLoop idlePolls s = some s₀ → s₀.busy = false → s₀.Live →
      EndsWith a enough (recommendedUse idlePolls sched m b k s)) :
    (∀ a' t, recommendedUse idlePolls sched m b k s = some (a', t) → a' = a) ∧
    (4 ≤ idlePolls.sum → enough → ∃ a' t, recommendedUse idlePolls sched m b k s = some (a', t)) := by
  obtain ⟨hwait, hpolls⟩ | ⟨s₀, hwait, hidle, hlive⟩ := waitLoop_of_inv hinv hmark idlePolls
  · have hnone : recommendedUse idlePolls sched m b k s = none := by simp only [recommendedUse, hwait]
    refine ⟨fun a' t hsome => ?_, fun hfour => absurd hpolls (not_lt.2 hfour)⟩
    cases hnone.symm.trans hsome
  · have huse := hrest s₀ hwait hidle hlive
    exact ⟨fun _ _ => huse.only, fun _ => huse.ends⟩

end Use

/-- Settles O53: the first wait leaves an idle FTE, whatever was in flight, and the rest is a RUN with the ERR check. -/
theorem recommendedUseGivesTheTransform : Obligations.RecommendedUseGivesTheTransform := by
  intro idlePolls sched b k s hinv hmark
  refine ⟨fun d => ?valid, fun m hm => ?invalid⟩
  case valid =>
    exact recommendedUse_of_inv hinv hmark fun _ hwait hidle hlive => recommendedUse_valid hwait hidle hlive d
  case invalid =>
    exact recommendedUse_of_inv hinv hmark fun _ hwait hidle hlive => recommendedUse_invalid hwait hidle hlive hm

/-! ### The rounds of a command in clock cycles (R245) -/

/-- The rounds made before the start of cycle t+k by a command accepted in cycle t. -/
def roundsBefore (latency : Nat) (early : List Nat) : Nat → Nat
  | 0 => 0
  | k + 1 =>
    min (roundsBefore latency early k + roundsInCycle latency early k (roundsBefore latency early k)) 4

/-- Up to cycle t+LATENCY the fourth round is not made. -/
theorem roundsBefore_lt_four {latency k : Nat} (early : List Nat) (hk : k ≤ latency) :
    roundsBefore latency early k < 4 := by
  induction k with
  | zero => exact Nat.zero_lt_succ 3
  | succ k ih =>
    have hbefore := roundsInCycle_before (Nat.lt_of_succ_le hk) early (roundsBefore latency early k)
    have hlt := ih (Nat.le_of_succ_le hk)
    rw [roundsBefore]
    omega

/-- From cycle t+LATENCY+1 on all four rounds are made. -/
theorem roundsBefore_eq_four {latency k : Nat} (early : List Nat) (hk : latency < k) :
    roundsBefore latency early k = 4 := by
  cases k with
  | zero => exact absurd hk (Nat.not_lt_zero latency)
  | succ k =>
    rw [roundsBefore, roundsInCycle_last (Nat.le_of_lt_succ hk)]
    omega

/-- With the reference LATENCY, one round in each of the cycles t+1 to t+4. -/
theorem roundsBefore_reference {k : Nat} (early : List Nat) (hk : k ≤ 5) :
    roundsBefore Config.referenceLatency early k = k - 1 := by
  induction k with
  | zero => rfl
  | succ k ih =>
    rw [roundsBefore, ih (Nat.le_of_succ_le hk), roundsInCycle_reference (Nat.le_of_succ_le_succ hk)]
    split <;> omega

/-- The start of cycle t+k of the command of direction `d` that was accepted in cycle t with operands `v` and `key`. -/
structure InCycle (latency : Nat) (early : List Nat) (d : Direction) (v key old : Block) (k : Nat) (c : ClockedState) :
    Prop where
  command : CommandAt d v key old (roundsBefore latency early k) c.fte
  elapsed : c.fte.busy = true → c.elapsed = k

section Clock

variable {latency : Nat} {early : List Nat} {d : Direction} {v key old : Block} {n k : Nat} {s : State}
  {c : ClockedState} {a : Option Descriptor}

/-- The turns of a cycle make its rounds, until the fourth is made. -/
theorem deliver_turnsInCycle (h : CommandAt d v key old n s) (latency : Nat) (early : List Nat) (k : Nat) :
    ∃ t, deliver (turnsInCycle latency early k s) s = .next t ∧
      CommandAt d v key old (min (n + roundsInCycle latency early k n) 4) t := by
  have hle := h.le_four
  by_cases hn : n < 4
  · have hcount (m : Nat) : engineTurns (List.replicate m .engineTurn) = m := List.count_replicate_self
    obtain ⟨t, hdeliver, ht⟩ := h.deliver_append (es := List.replicate (roundsInCycle latency early k n) .engineTurn)
      (by simp [Event.undisturbing]) (fun ht hmem _ => by cases List.eq_of_mem_replicate hmem) []
    rw [hcount] at ht
    rw [List.append_nil, deliver_nil] at hdeliver
    rw [turnsInCycle, if_pos (h.busy_of_lt hn), h.ctr]
    exact ⟨_, hdeliver, ht.withEvents []⟩
  · obtain rfl : n = 4 := by omega
    rw [turnsInCycle, h.idle_of_completed, if_neg Bool.false_ne_true, min_eq_right (Nat.le_add_right 4 _)]
    exact ⟨_, deliver_nil s, h.withEvents []⟩

/-- The access of a cycle keeps a command that is in flight; a completed one, unless it is a CMD write. -/
theorem deliver_accessEvents (h : CommandAt d v key old n s)
    (hlegal : ∀ ht, a = some ht → raisesBusError (decodeDescriptor ht) = false)
    (hcmd : ∀ ht, a = some ht → isCmdWrite (decodeDescriptor ht) = true → n < 4) :
    ∃ t, deliver (accessEvents ⟨false, a⟩) s = .next t ∧ CommandAt d v key old n t := by
  cases a with
  | none => exact ⟨_, deliver_nil s, h.withEvents []⟩
  | some ht =>
    obtain ⟨t, hexec, ht'⟩ := (h.withEvents []).after_exec (hlegal ht rfl) (hcmd ht rfl)
    rw [← serve_access_of_live (h.withEvents []).live] at hexec
    exact ⟨_, (deliver_cons_of_next hexec).trans (deliver_nil t), ht'.withEvents []⟩

/-- A cycle with number `k` whose access leaves the command with the rounds made before the cycle. -/
theorem inCycle_of_accessEvents (hnumber : roundsBefore latency early k < 4 → c.cycleNumber = k)
    {t : State} (hdeliver : deliver (accessEvents ⟨false, a⟩) c.fte = .next t)
    (ht : CommandAt d v key old (roundsBefore latency early k) t) :
    ∃ c', clockCycle latency early ⟨false, a⟩ c = some c' ∧ InCycle latency early d v key old (k + 1) c' := by
  obtain ⟨u, hturns, hu⟩ := deliver_turnsInCycle ht latency early c.cycleNumber
  refine ⟨_, clockCycle_of_next hdeliver hturns, ?_⟩
  by_cases hlt : roundsBefore latency early k < 4
  · rw [hnumber hlt] at hu ⊢
    exact ⟨hu, fun _ => rfl⟩
  · have hfour : roundsBefore latency early k = 4 := by have := ht.le_four; omega
    have hnext : roundsBefore latency early (k + 1) = 4 := by rw [roundsBefore, hfour]; omega
    rw [hfour, min_eq_right (Nat.le_add_right 4 _)] at hu
    refine ⟨?_, fun hbusy => ?_⟩
    · rwa [hnext]
    · cases hu.idle_of_completed.symm.trans hbusy

/-- The accepting cycle, from the start of cycle t to the start of cycle t+1. -/
theorem inCycle_one_of_accepted (hidle : c.fte.busy = false) (hlive : c.fte.Live) (latency : Nat) (early : List Nat)
    (d : Direction) (rsvd : BitVec 30) :
    ∃ c', clockCycle latency early ⟨false, some (encode (commandOf d rsvd))⟩ c = some c' ∧
      InCycle latency early d c.fte.dataIn c.fte.key c.fte.result 1 c' := by
  have hdeliver := deliver_commandAfter hidle hlive d rsvd 0 []
  rw [deliver_nil] at hdeliver
  exact inCycle_of_accessEvents (k := 0) (fun _ => cycleNumber_of_idle hidle) hdeliver
    ((commandAt_acceptValid hlive d).withEvents [])

/-- A later cycle with a legal access, or none. -/
theorem InCycle.after_cycle (h : InCycle latency early d v key old k c)
    (hlegal : ∀ ht, a = some ht → raisesBusError (decodeDescriptor ht) = false)
    (hcmd : ∀ ht, a = some ht → isCmdWrite (decodeDescriptor ht) = true → k ≤ latency) :
    ∃ c', clockCycle latency early ⟨false, a⟩ c = some c' ∧ InCycle latency early d v key old (k + 1) c' := by
  obtain ⟨t, hdeliver, ht⟩ := deliver_accessEvents h.command hlegal
    fun ht heq hwrite => roundsBefore_lt_four early (hcmd ht heq hwrite)
  refine inCycle_of_accessEvents (fun hlt => ?_) hdeliver ht
  have hbusy := h.command.busy_of_lt hlt
  exact (cycleNumber_of_busy hbusy).trans (h.elapsed hbusy)

/-- Later cycles with legal accesses, whatever cycles come after them; a CMD write may be among them only if they are over
by the start of cycle t+LATENCY+1. -/
theorem InCycle.clockRun_append {as : List (Option Descriptor)} (h : InCycle latency early d v key old k c)
    (hlegal : ∀ ht, some ht ∈ as → raisesBusError (decodeDescriptor ht) = false)
    (hcmd : ∀ ht, some ht ∈ as → isCmdWrite (decodeDescriptor ht) = true → k + as.length ≤ latency + 1)
    (rest : List (Option Descriptor)) :
    ∃ c', clockRun latency early (accessCycles (as ++ rest)) c = clockRun latency early (accessCycles rest) c' ∧
      InCycle latency early d v key old (k + as.length) c' := by
  induction as generalizing k c with
  | nil => exact ⟨c, rfl, h⟩
  | cons a as ih =>
    rw [List.length_cons] at hcmd
    obtain ⟨c₁, hcycle, h₁⟩ := h.after_cycle (a := a) (fun ht heq => hlegal ht (heq ▸ List.mem_cons_self))
      fun ht heq hwrite => by
        have := hcmd ht (heq ▸ List.mem_cons_self) hwrite
        omega
    obtain ⟨c₂, hrun, h₂⟩ := ih h₁ (fun ht hmem => hlegal ht (List.mem_cons_of_mem a hmem))
      fun ht hmem hwrite => by
        have := hcmd ht (List.mem_cons_of_mem a hmem) hwrite
        omega
    refine ⟨c₂, (clockRun_cons hcycle).trans hrun, ?_⟩
    rwa [List.length_cons, Nat.add_comm as.length 1, ← Nat.add_assoc]

/-- A command from its accepting cycle on, through cycles with legal accesses that are over by the start of cycle
t+LATENCY+1. -/
theorem clockRun_of_accepted (hidle : c.fte.busy = false) (hlive : c.fte.Live) {later : List (Option Descriptor)}
    (hlegal : ∀ ht, some ht ∈ later → raisesBusError (decodeDescriptor ht) = false) (hlater : later.length ≤ latency)
    (early : List Nat) (d : Direction) (rsvd : BitVec 30) (rest : List (Option Descriptor)) :
    ∃ t, clockRun latency early (accessCycles (some (encode (commandOf d rsvd)) :: (later ++ rest))) c =
        clockRun latency early (accessCycles rest) t ∧
      InCycle latency early d c.fte.dataIn c.fte.key c.fte.result (later.length + 1) t := by
  obtain ⟨c₁, hcycle, h₁⟩ := inCycle_one_of_accepted hidle hlive latency early d rsvd
  obtain ⟨t, hrun, ht⟩ := h₁.clockRun_append hlegal (fun _ _ _ => by omega) rest
  rw [Nat.add_comm 1] at ht
  exact ⟨t, (clockRun_cons hcycle).trans hrun, ht⟩

end Clock

/-- Settles O54: `InCycle` at the start of each cycle, and what `roundsBefore` is there. -/
theorem referenceTiming : Obligations.ReferenceTiming := by
  intro latency early d rsvd c later more hidle hlive hlegal hmore
  have hrun (hlater : later.length ≤ latency) :=
    clockRun_of_accepted hidle hlive hlegal hlater early d rsvd
  refine ⟨fun hlater => ?busy, fun hlater => ?completed, fun hlatency hlater => ?reference⟩
  case busy =>
    obtain ⟨t, ht, hcycle⟩ := hrun hlater.le []
    rw [List.append_nil] at ht
    exact ⟨t, ht, hcycle.command.busy_of_lt (roundsBefore_lt_four early hlater)⟩
  case completed =>
    obtain ⟨u, hu, hcycle⟩ := hrun hlater.le more
    obtain ⟨t, ht, hcycle⟩ := hcycle.clockRun_append (fun ht hmem => (hmore ht hmem).1)
      (fun ht hmem hwrite => by cases (hmore ht hmem).2.symm.trans hwrite) []
    rw [List.append_nil] at ht
    have hcommand := hcycle.command
    rw [roundsBefore_eq_four early (by omega)] at hcommand
    exact ⟨t, hu.trans ht, hcommand.busy, hcommand.done, hcommand.result⟩
  case reference =>
    subst hlatency
    obtain ⟨t, ht, hcycle⟩ := hrun hlater []
    rw [List.append_nil] at ht
    have hcommand := hcycle.command
    rw [show roundsBefore 4 early (later.length + 1) = later.length from
      roundsBefore_reference early (Nat.succ_le_succ hlater)] at hcommand
    exact ⟨t, ht, hcommand.ctr, hcommand.round⟩

/-! ### CMD writes that take no engine cycle (R246) -/

/-- Where the engine's turn does not stop: a live state, with R34's range of CTR while BUSY = 1. -/
structure EngineGoesOn (s : State) : Prop where
  live : s.Live
  ctr_le : s.busy = true → s.ctr.toNat ≤ 3

/-- The engine does not look at the shown answer. -/
theorem EngineGoesOn.engineTurn_respond {s : State} (h : EngineGoesOn s) (a : Response) :
    ∃ t, engineTurn s = .next t ∧ engineTurn (s.respond a) = .next (t.respond a) ∧ EngineGoesOn t := by
  cases hbusy : s.busy with
  | false => exact ⟨s, engineTurn_of_idle hbusy, engineTurn_of_idle (s := s.respond a) hbusy, h⟩
  | true =>
    obtain hlt | heq := Nat.lt_or_eq_of_le (h.ctr_le hbusy)
    · refine ⟨_, engineTurn_of_ctr_lt hbusy hlt, engineTurn_of_ctr_lt (s := s.respond a) hbusy hlt, h.live, fun _ => ?_⟩
      rw [toNat_ctr_applyRound (by omega)]
      omega
    · exact ⟨_, engineTurn_of_ctr_eq hbusy heq, engineTurn_of_ctr_eq (s := s.respond a) hbusy heq, h.live, nofun⟩

theorem EngineGoesOn.deliver_turns_respond {s : State} (h : EngineGoesOn s) (a : Response) (turns : Nat) :
    ∃ t, deliver (List.replicate turns .engineTurn) s = .next t ∧
      deliver (List.replicate turns .engineTurn) (s.respond a) = .next (t.respond a) := by
  induction turns generalizing s with
  | zero => exact ⟨_, deliver_nil s, rfl⟩
  | succ turns ih =>
    have hready : EngineGoesOn (s.withEvents (List.replicate turns .engineTurn)) := ⟨h.live, h.ctr_le⟩
    obtain ⟨u, hturn, hturn', hu⟩ := hready.engineTurn_respond a
    obtain ⟨t, hrest, hrest'⟩ := ih hu
    rw [← serve_engineTurn_of_live hready.live] at hturn
    have hlive : ((s.withEvents (List.replicate turns .engineTurn)).respond a).Live := h.live
    rw [← serve_engineTurn_of_live hlive] at hturn'
    exact ⟨t, (deliver_cons_of_next hturn).trans hrest, (deliver_cons_of_next (s := s.respond a) hturn').trans hrest'⟩

/-- The turns of a cycle are the same whatever answer is shown. -/
theorem turnsInCycle_respond (latency : Nat) (early : List Nat) (k : Nat) (s : State) (a : Response) :
    turnsInCycle latency early k (s.respond a) = turnsInCycle latency early k s := rfl

/-- An invalid mode's cycle, on an idle FTE: the engine is not asked for a round. -/
theorem clockCycle_invalid {c : ClockedState} (hidle : c.fte.busy = false) (hlive : c.fte.Live) {i : Instr}
    (hwf : i.wellFormed = true) (hexec : ∀ u, exec i u = cmdWrite raiseInvalidMode u) (latency : Nat) (early : List Nat) :
    ∃ t, clockRun latency early (accessCycles [some (encode i)]) c = some t ∧ statusWord t.fte = 0x0000000A#32 := by
  have hdeliver := deliver_invalidAfter hidle hlive hwf hexec 0
  have hturns : turnsInCycle latency early c.cycleNumber
      (((raiseInvalidMode c.fte.clearOutcome).respond .okay).withEvents []) = [] :=
    if_neg (by simp [hidle])
  have hcycle := clockCycle_of_next (a := some (encode i)) (latency := latency) (early := early) hdeliver
    ((congrArg (deliver · _) hturns).trans (deliver_nil _))
  exact ⟨_, clockRun_cons hcycle, statusWord_of_invalidMode hidle rfl rfl⟩

/-- A dropped CMD write's cycle makes the rounds of the cycle without it. -/
theorem clockCycle_dropped {c : ClockedState} (hlive : c.fte.Live) (hbusy : c.fte.busy = true)
    (hctr : c.fte.ctr.toNat ≤ 3) {ht : Descriptor} (hcmd : isCmdWrite (decodeDescriptor ht) = true) (latency : Nat)
    (early : List Nat) :
    ∃ t u, clockCycle latency early ⟨false, some ht⟩ c = some t ∧ clockCycle latency early ⟨false, none⟩ c = some u ∧
      t = { u with fte := u.fte.respond .okay } := by
  have hready : EngineGoesOn (c.fte.withEvents []) := ⟨hlive, fun _ => hctr⟩
  have hwrite : deliver (accessEvents ⟨false, some ht⟩) c.fte = .next ((c.fte.withEvents []).respond .okay) := by
    have hserve : serve (.access ht) (c.fte.withEvents []) = .next ((c.fte.withEvents []).respond .okay) := by
      rw [serve_access_of_live hready.live, exec_cmdWrite_of_busy (s := c.fte.withEvents []) hcmd hbusy]
    exact (deliver_cons_of_next hserve).trans (deliver_nil _)
  have hturns : turnsInCycle latency early c.cycleNumber (c.fte.withEvents []) =
      List.replicate (roundsInCycle latency early c.cycleNumber c.fte.ctr.toNat) .engineTurn := if_pos hbusy
  obtain ⟨t, hwithout, hwith⟩ := hready.deliver_turns_respond .okay
    (roundsInCycle latency early c.cycleNumber c.fte.ctr.toNat)
  rw [← hturns] at hwithout hwith
  rw [← turnsInCycle_respond _ _ _ _ .okay] at hwith
  exact ⟨_, _, clockCycle_of_next hwrite hwith, clockCycle_of_next (deliver_nil c.fte) hwithout, rfl⟩

/-- Settles O56: an invalid mode leaves the FTE idle, so its cycle has no turn of the engine; a dropped write changes only
the shown answer, which no turn looks at. -/
theorem invalidAndDroppedWritesTakeNoEngineCycle : Obligations.InvalidAndDroppedWritesTakeNoEngineCycle := by
  intro latency early c hlive
  refine ⟨fun rsvd hidle => ⟨?mode00, ?mode11⟩, fun ht hcmd hbusy hctr => ?dropped⟩
  case dropped => exact clockCycle_dropped hlive hbusy hctr hcmd latency early
  all_goals exact clockCycle_invalid hidle hlive rfl (fun _ => rfl) latency early

end Sys2Proof.HazardProofs
end
